-- ==== Sys2Proof/Word.lean ====
section
/-! DEFINITION. The word types of the FCR (00_scope.md R10; 10_state.md R33; 30_encoding.md R80, R95).
The bit-field and byte-order helpers stand in Machine/Codec.lean. -/

namespace Sys2Proof

/-- A byte of a frame or of the receive queue (R10). -/
abbrev Byte := BitVec 8

/-- A 16-bit field: an address, a payload or a distance (R62). -/
abbrev Half := BitVec 16

/-- An operation word (R80). -/
abbrev OpWord := BitVec 64

/-- A word of the register read port (R33). -/
abbrev RegWord := BitVec 32

/-- A frame read as one 72-bit value, byte 0 in bits 71:64 (R95). -/
abbrev FrameBits := BitVec 72

end Sys2Proof
end

