-- ==== Sys2Proof/Config.lean ====
section
/-! DEFINITION. The protocol's constants (00_scope.md R7, R8) and the three parameters that R9 leaves
open. An open parameter is an opaque constant: no proof can see its value. -/

namespace Sys2Proof

/-- R9: the two encodings of SetCommunicationMode. -/
inductive CommVariant
  | a
  | b
  deriving DecidableEq, Repr, Inhabited

/-- R9: the frame byte that carries the Reset sub-selector. -/
inductive SelPos
  | byte5
  | byte6
  | byte7
  deriving DecidableEq, Repr, Inhabited

namespace Config

/-- R7 -/
abbrev frameLen : Nat := 9

/-- R8: SYNC -/
abbrev sync : Byte := 0x62#8

/-- R8: LEN_MARK -/
abbrev lenMark : Byte := 0x09#8

/-- R8: ACK -/
abbrev ack : Byte := 0x66#8

/-- R8: CMD_DIST -/
abbrev cmdDist : Byte := 0x33#8

/-- R8: ADDR_BCAST -/
abbrev addrBcast : Half := 0xFFFF#16

/-- R8: ADDR_MAX -/
abbrev addrMax : Half := 0xFFFE#16

/-- How many bytes more than one frame the receive queue holds. Open (R9; D5); log 5. -/
opaque rxqSpare : Fin 65527

/-- R9: RXQ_DEPTH, at least 9 and less than 65536, and nothing else is known of it (log 5). -/
def rxqDepth : Nat := rxqSpare.val + frameLen

/-- R9: COMM_VARIANT, the host's choice; open (D29); log 7. -/
opaque commVariant : CommVariant

/-- R9: RESET_SEL_POS, the host's choice; open (D30); log 8. -/
opaque resetSelPos : SelPos

end Config

end Sys2Proof
end

