-- ==== Sys2Proof/Syntax.lean ====
section
/-! DEFINITION. Frames and the instructions: one constructor for each row of spec/opcode_table.json. -/

namespace Sys2Proof

/-- A frame: nine bytes in wire order (30_encoding.md R85; 20_memory.md R62). -/
structure Frame where
  sync : Byte
  cmd : Byte
  len : Byte
  addrHi : Byte
  addrLo : Byte
  data0 : Byte
  data1 : Byte
  status : Byte
  checksum : Byte
  deriving DecidableEq, Repr

/-- The rows of the opcode table, in its order. The first ten are operation words (30_encoding.md R81,
R93); the next twelve are the command pseudo-instructions (42_wire_commands.md R171 to R182), with the
operands of their syntax there; the last two are the frames the sensor sends (R183, R184), with the
fields of their rows (R95). -/
inductive Instr
  | nop
  | rxb (b : Byte)
  | poll
  | start (sync cmd : Byte) (addr : Half) (p0 p1 p2 : Byte)
  | startMan (sync cmd : Byte) (addr : Half) (p0 p1 p2 : Byte)
  | startAuto (sync cmd : Byte) (addr : Half) (p0 p1 p2 : Byte)
  | timeout
  | txfail
  | flush
  | brst
  /-- `pos` is RESET_SEL_POS, an argument (R9; log 8). -/
  | resetHard (pos : SelPos) (addr : Half)
  /-- `pos` is RESET_SEL_POS, an argument (R9; log 8). -/
  | resetSoft (pos : SelPos) (addr : Half)
  | setAddr (addr new : Half)
  | setBaud (addr : Half) (p0 p1 p2 : Byte)
  | setUpModeAuto (addr : Half) (p0 p1 p2 : Byte)
  | setUpModeMan (addr : Half) (p0 p1 p2 : Byte)
  | setUpInt (addr : Half) (p0 p1 p2 : Byte)
  | setCommA (addr : Half) (p0 p1 p2 : Byte)
  | setCommB (addr : Half) (p0 p1 p2 : Byte)
  | setLed (addr : Half) (p0 p1 p2 : Byte)
  | setRelay (addr : Half) (p0 p1 p2 : Byte)
  | readDist (addr : Half)
  | respConfig (sync cmd len : Byte) (addr data : Half) (status checksum : Byte)
  | frameDist (len : Byte) (addr dist : Half) (status checksum : Byte)
  deriving DecidableEq, Repr

end Sys2Proof
end

