-- ==== Sys2Proof/Machine/Codec.lean ====
section
/-! DEFINITION. The frame codec, 40_codec.md: the byte-order helpers, Checksum, BuildFrame, Validate,
Decode and Classify, and the types of their results. -/

namespace Sys2Proof

/-- The nine bytes of a frame, the one sent or received first at the head (20_memory.md R62). -/
def Frame.bytes (f : Frame) : List Byte :=
  [f.sync, f.cmd, f.len, f.addrHi, f.addrLo, f.data0, f.data1, f.status, f.checksum]

namespace Machine

/-- 10_state.md R23, 30_encoding.md R94: the mode request of an exchange. The code 3 is never stored. -/
inductive Mreq
  | none
  | manual
  | auto
  deriving DecidableEq, Repr

/-- 10_state.md R23, 30_encoding.md R94: the two bits of a mode request. -/
def mreqBits : Mreq → BitVec 2
  | .none => 0#2
  | .manual => 1#2
  | .auto => 2#2

/-- 10_state.md R23: the kind of response an exchange expects. -/
inductive Kind
  | config
  | dist
  deriving DecidableEq, Repr

/-- The outcome codes, 60_exceptions.md R201; 10 to 15 are never produced (log 12). -/
inductive OutcomeCode
  | none
  | success
  | timeout
  | checksumError
  | responseError
  | deviceRejected
  | transportError
  | paramError
  | modeConflict
  | busy
  deriving DecidableEq, Repr

/-- The results of Validate (R104). -/
inductive Verdict
  | ok
  | csumBad
  | pairBad
  deriving DecidableEq, Repr

/-- The decoded fields of a frame (R106). -/
structure Fields where
  addr : Half
  data : Half
  status : Byte
  deriving DecidableEq, Repr

/-- 00_scope.md R11: the big-endian field of two bytes, `hi` the more significant. -/
def cat16 (hi lo : Byte) : Half := hi ++ lo

/-- 00_scope.md R11: `v[15:8]`. -/
def hi8 (v : Half) : Byte := v.extractLsb' 8 8

/-- 00_scope.md R11: `v[7:0]`. -/
def lo8 (v : Half) : Byte := v.extractLsb' 0 8

/-- 00_scope.md R11: the exclusive-or of a sequence of bytes, a left fold from 0x00. -/
def xorFold (bs : List Byte) : Byte := bs.foldl (· ^^^ ·) 0x00#8

/-- R100: Checksum of the first eight bytes of a frame. -/
def checksumOf (f : Frame) : Byte := xorFold (f.bytes.take 8)

/-- R102: BuildFrame; the assembly of the bytes is 30_encoding.md R87. -/
def buildFrame (sync cmd : Byte) (addr : Half) (p0 p1 p2 : Byte) : Frame :=
  let body : Frame :=
    { sync := sync, cmd := cmd, len := Config.lenMark, addrHi := hi8 addr, addrLo := lo8 addr,
      data0 := p0, data1 := p1, status := p2, checksum := 0x00#8 }
  { body with checksum := checksumOf body }

/-- R104: Validate. The checksum is compared before the pair (90_conflicts.md C5). -/
def validate (w : Frame) (es ec : Byte) : Verdict :=
  if checksumOf w ≠ w.checksum then .csumBad
  else if w.sync ≠ es ∨ w.cmd ≠ ec then .pairBad
  else .ok

/-- R106: Decode. -/
def fieldsOf (w : Frame) : Fields :=
  { addr := cat16 w.addrHi w.addrLo, data := cat16 w.data0 w.data1, status := w.status }

/-- R107: Classify. -/
def classify (kind : Kind) (v : Verdict) (status : Byte) : OutcomeCode :=
  match v with
  | .csumBad => .checksumError
  | .pairBad => .responseError
  | .ok =>
    match kind with
    | .dist => .success
    | .config => if status = Config.ack then .success else .deviceRejected

/-- 30_encoding.md R88: the kind of the exchange that a pair opens. -/
def kindOf (sync cmd : Byte) : Kind :=
  if sync = Config.sync ∧ cmd = Config.cmdDist then .dist else .config

/-- 30_encoding.md R88: the pair of SetAddress. -/
def isSetAddressPair (sync cmd : Byte) : Bool := sync == 0x62#8 && cmd == 0x32#8

/-- 30_encoding.md R88: the pair of SetUploadMode. -/
def isSetUploadModePair (sync cmd : Byte) : Bool := sync == 0x62#8 && cmd == 0x34#8

/-- `Peek(9)` of 00_scope.md R12: the nine oldest bytes of a queue as a frame, when there are nine. -/
def peek9 : List Byte → Option Frame
  | b0 :: b1 :: b2 :: b3 :: b4 :: b5 :: b6 :: b7 :: b8 :: _ =>
    some { sync := b0, cmd := b1, len := b2, addrHi := b3, addrLo := b4, data0 := b5, data1 := b6,
           status := b7, checksum := b8 }
  | _ => none

end Machine

end Sys2Proof
end

