-- ==== Sys2Proof/Machine/Operands.lean ====
section
/-! DEFINITION. Operand assembly: the operands of a START* operation (30_encoding.md R84), the START* that
each command pseudo-instruction expands to (42_wire_commands.md R170 to R182), and the bytes of the
frames the sensor sends (R183, R184). -/

namespace Sys2Proof.Machine

/-- The operands of a START* operation (R84), the mode request among them (R94). -/
structure StartArgs where
  mreq : Mreq
  sync : Byte
  cmd : Byte
  addr : Half
  p0 : Byte
  p1 : Byte
  p2 : Byte
  deriving DecidableEq, Repr

/-- R87: the command frame of a START*. -/
def commandFrame (a : StartArgs) : Frame := buildFrame a.sync a.cmd a.addr a.p0 a.p1 a.p2

/-- R171, R172: the Reset command, its selector in the frame byte `pos` and 0x00 in the other two. -/
def resetArgs (sel : Byte) (pos : SelPos) (addr : Half) : StartArgs :=
  match pos with
  | .byte5 => ⟨.none, 0x62#8, 0x39#8, addr, sel, 0x00#8, 0x00#8⟩
  | .byte6 => ⟨.none, 0x62#8, 0x39#8, addr, 0x00#8, sel, 0x00#8⟩
  | .byte7 => ⟨.none, 0x62#8, 0x39#8, addr, 0x00#8, 0x00#8, sel⟩

/-- R171: RESET.HARD, selector 0xFE. -/
def resetHardArgs (pos : SelPos) (addr : Half) : StartArgs := resetArgs 0xFE#8 pos addr

/-- R172: RESET.SOFT, selector 0xFD. -/
def resetSoftArgs (pos : SelPos) (addr : Half) : StartArgs := resetArgs 0xFD#8 pos addr

/-- R173: SETADDR. -/
def setAddrArgs (addr new : Half) : StartArgs :=
  ⟨.none, 0x62#8, 0x32#8, addr, hi8 new, lo8 new, 0x00#8⟩

/-- R174: SETBAUD. -/
def setBaudArgs (addr : Half) (p0 p1 p2 : Byte) : StartArgs := ⟨.none, 0x62#8, 0x30#8, addr, p0, p1, p2⟩

/-- R175: SETUPMODE.AUTO expands to START.AUTO. -/
def setUpModeAutoArgs (addr : Half) (p0 p1 p2 : Byte) : StartArgs :=
  ⟨.auto, 0x62#8, 0x34#8, addr, p0, p1, p2⟩

/-- R176: SETUPMODE.MAN expands to START.MAN. -/
def setUpModeManArgs (addr : Half) (p0 p1 p2 : Byte) : StartArgs :=
  ⟨.manual, 0x62#8, 0x34#8, addr, p0, p1, p2⟩

/-- R177: SETUPINT. -/
def setUpIntArgs (addr : Half) (p0 p1 p2 : Byte) : StartArgs := ⟨.none, 0x62#8, 0x35#8, addr, p0, p1, p2⟩

/-- R178: SETCOMM.A, the one pair whose sync is 0x61. -/
def setCommAArgs (addr : Half) (p0 p1 p2 : Byte) : StartArgs := ⟨.none, 0x61#8, 0x30#8, addr, p0, p1, p2⟩

/-- R179: SETCOMM.B. -/
def setCommBArgs (addr : Half) (p0 p1 p2 : Byte) : StartArgs := ⟨.none, 0x62#8, 0x31#8, addr, p0, p1, p2⟩

/-- R180: SETLED. -/
def setLedArgs (addr : Half) (p0 p1 p2 : Byte) : StartArgs := ⟨.none, 0x62#8, 0x37#8, addr, p0, p1, p2⟩

/-- R181: SETRELAY. -/
def setRelayArgs (addr : Half) (p0 p1 p2 : Byte) : StartArgs := ⟨.none, 0x62#8, 0x38#8, addr, p0, p1, p2⟩

/-- R182: READDIST. -/
def readDistArgs (addr : Half) : StartArgs :=
  ⟨.none, 0x62#8, 0x33#8, addr, 0x00#8, 0x00#8, 0x00#8⟩

/-- R183: the configuration response frame, as the sensor sends it. -/
def respConfigFrame (sync cmd len : Byte) (addr data : Half) (status checksum : Byte) : Frame :=
  ⟨sync, cmd, len, hi8 addr, lo8 addr, hi8 data, lo8 data, status, checksum⟩

/-- R184: the distance frame, as the sensor sends it. -/
def frameDistFrame (len : Byte) (addr dist : Half) (status checksum : Byte) : Frame :=
  ⟨0x62#8, 0x33#8, len, hi8 addr, lo8 addr, hi8 dist, lo8 dist, status, checksum⟩

/-- R9: the SetCommunicationMode command of a host whose COMM_VARIANT is Config's (log 7). -/
def hostSetComm (addr : Half) (p0 p1 p2 : Byte) : Instr :=
  match Config.commVariant with
  | .a => .setCommA addr p0 p1 p2
  | .b => .setCommB addr p0 p1 p2

/-- R9: the hard Reset command of a host whose RESET_SEL_POS is Config's (log 8). -/
def hostResetHard (addr : Half) : Instr := .resetHard Config.resetSelPos addr

/-- R9: the soft Reset command of a host whose RESET_SEL_POS is Config's (log 8). -/
def hostResetSoft (addr : Half) : Instr := .resetSoft Config.resetSelPos addr

end Sys2Proof.Machine
end

