-- ==== Sys2Proof/Decode.lean ====
section
/-! DEFINITION. The decoder of operation words (30_encoding.md R81 to R84, R89, R93, R94), the reader of
frame rows (R95), and after them the encoders. -/

namespace Sys2Proof

open Machine

/-- Why an operation word is illegal (R89). Every reason has the same effect, 41_block_ops.md R141. -/
inductive IllegalWord
  /-- OP 0x8 to 0xF -/
  | reservedOp
  /-- OP 0x3 with MREQ = 11 -/
  | reservedMreq
  /-- a bit that the format fixes at zero is set -/
  | nonzeroBits
  deriving DecidableEq, Repr

/-- Why a frame and a mode request are no command pseudo-instruction of 42_wire_commands.md. -/
inductive NotACommand
  /-- byte 2 is not 0x09 (R86) -/
  | badLen
  /-- the pair is none of the ten of R171 to R182 -/
  | unknownPair
  /-- a payload byte that the row fixes at 0x00 is not (R173, R182) -/
  | unusedByteSet
  /-- a Reset frame without exactly one selector byte (R171, R172) -/
  | badSelector
  /-- a mode request on another pair than SetUploadMode's, or none on that pair (R175, R176) -/
  | modeRequest
  deriving DecidableEq, Repr

/-! ### Operation words -/

/-- R81: the OP field. -/
def opField (w : OpWord) : BitVec 4 := w.extractLsb' 60 4

/-- R93: `w[63:56]`. -/
def topByte (w : OpWord) : Byte := w.extractLsb' 56 8

/-- R84: SYNC, bits 55:48. -/
def syncField (w : OpWord) : Byte := w.extractLsb' 48 8

/-- R84: CMD, bits 47:40. -/
def cmdField (w : OpWord) : Byte := w.extractLsb' 40 8

/-- R84: ADDR, bits 39:24. -/
def addrField (w : OpWord) : Half := w.extractLsb' 24 16

/-- R84: P0, bits 23:16. -/
def p0Field (w : OpWord) : Byte := w.extractLsb' 16 8

/-- R84: P1, bits 15:8. -/
def p1Field (w : OpWord) : Byte := w.extractLsb' 8 8

/-- R84: P2, bits 7:0. R83: BYTE. -/
def p2Field (w : OpWord) : Byte := w.extractLsb' 0 8

/-- R89: the reason for a word that no row of R93 matches. -/
def illegalReason (w : OpWord) : IllegalWord :=
  if 0x8#4 ≤ opField w then .reservedOp
  else if topByte w = 0x33#8 then .reservedMreq
  else .nonzeroBits

/-- R93: the decoder, its rows in the order of the rule's table; total on every word. -/
def decodeOp (w : OpWord) : Except IllegalWord Instr :=
  if w = 0x0000000000000000#64 then .ok .nop
  else if w.extractLsb' 8 56 = 0x10000000000000#56 then .ok (.rxb (p2Field w))
  else if w = 0x2000000000000000#64 then .ok .poll
  else if topByte w = 0x30#8 then
    .ok (.start (syncField w) (cmdField w) (addrField w) (p0Field w) (p1Field w) (p2Field w))
  else if topByte w = 0x31#8 then
    .ok (.startMan (syncField w) (cmdField w) (addrField w) (p0Field w) (p1Field w) (p2Field w))
  else if topByte w = 0x32#8 then
    .ok (.startAuto (syncField w) (cmdField w) (addrField w) (p0Field w) (p1Field w) (p2Field w))
  else if w = 0x4000000000000000#64 then .ok .timeout
  else if w = 0x5000000000000000#64 then .ok .txfail
  else if w = 0x6000000000000000#64 then .ok .flush
  else if w = 0x7000000000000000#64 then .ok .brst
  else .error (illegalReason w)

/-! ### Frames -/

/-- R95: the frame of a 72-bit value, byte 0 in bits 71:64. -/
def Frame.ofBits (v : FrameBits) : Frame :=
  { sync := v.extractLsb' 64 8, cmd := v.extractLsb' 56 8, len := v.extractLsb' 48 8,
    addrHi := v.extractLsb' 40 8, addrLo := v.extractLsb' 32 8, data0 := v.extractLsb' 24 8,
    data1 := v.extractLsb' 16 8, status := v.extractLsb' 8 8, checksum := v.extractLsb' 0 8 }

/-- R171, R172: which Reset a payload selects: one byte is the selector and the other two are 0x00. -/
def decodeReset (addr : Half) (p0 p1 p2 : Byte) : Except NotACommand Instr :=
  if (p0, p1, p2) = (0xFE#8, 0x00#8, 0x00#8) then .ok (.resetHard .byte5 addr)
  else if (p0, p1, p2) = (0x00#8, 0xFE#8, 0x00#8) then .ok (.resetHard .byte6 addr)
  else if (p0, p1, p2) = (0x00#8, 0x00#8, 0xFE#8) then .ok (.resetHard .byte7 addr)
  else if (p0, p1, p2) = (0xFD#8, 0x00#8, 0x00#8) then .ok (.resetSoft .byte5 addr)
  else if (p0, p1, p2) = (0x00#8, 0xFD#8, 0x00#8) then .ok (.resetSoft .byte6 addr)
  else if (p0, p1, p2) = (0x00#8, 0x00#8, 0xFD#8) then .ok (.resetSoft .byte7 addr)
  else .error .badSelector

/-- The command rows whose operation carries no mode request, by pair (R171 to R174, R177 to R182). -/
def decodePlainCommand (f : Frame) : Except NotACommand Instr :=
  let addr := cat16 f.addrHi f.addrLo
  if (f.sync, f.cmd) = (0x62#8, 0x39#8) then decodeReset addr f.data0 f.data1 f.status
  else if (f.sync, f.cmd) = (0x62#8, 0x32#8) then
    if f.status = 0x00#8 then .ok (.setAddr addr (cat16 f.data0 f.data1)) else .error .unusedByteSet
  else if (f.sync, f.cmd) = (0x62#8, 0x30#8) then .ok (.setBaud addr f.data0 f.data1 f.status)
  else if (f.sync, f.cmd) = (0x62#8, 0x35#8) then .ok (.setUpInt addr f.data0 f.data1 f.status)
  else if (f.sync, f.cmd) = (0x61#8, 0x30#8) then .ok (.setCommA addr f.data0 f.data1 f.status)
  else if (f.sync, f.cmd) = (0x62#8, 0x31#8) then .ok (.setCommB addr f.data0 f.data1 f.status)
  else if (f.sync, f.cmd) = (0x62#8, 0x37#8) then .ok (.setLed addr f.data0 f.data1 f.status)
  else if (f.sync, f.cmd) = (0x62#8, 0x38#8) then .ok (.setRelay addr f.data0 f.data1 f.status)
  else if (f.sync, f.cmd) = (0x62#8, 0x33#8) then
    if (f.data0, f.data1, f.status) = (0x00#8, 0x00#8, 0x00#8) then .ok (.readDist addr)
    else .error .unusedByteSet
  else .error .unknownPair

/-- The command pseudo-instruction of a command frame and the mode request of its operation. The rows of
SETUPMODE.AUTO and SETUPMODE.MAN have one pattern, and only the mode request tells them apart (R175,
R176). The checksum byte is no operand and no row's mask fixes it: it is not read (R95; log 9). -/
def decodeCommand (m : Mreq) (f : Frame) : Except NotACommand Instr :=
  if f.len ≠ Config.lenMark then .error .badLen
  else if (f.sync, f.cmd) = (0x62#8, 0x34#8) then
    match m with
    | .auto => .ok (.setUpModeAuto (cat16 f.addrHi f.addrLo) f.data0 f.data1 f.status)
    | .manual => .ok (.setUpModeMan (cat16 f.addrHi f.addrLo) f.data0 f.data1 f.status)
    | .none => .error .modeRequest
  else if m ≠ .none then .error .modeRequest
  else decodePlainCommand f

/-- The sensor row of a received frame: FRAME.DIST where the pair is the distance pair (R184), else
RESP.CONFIG (R183). Any nine bytes may be received, so it is total. -/
def decodeSensor (f : Frame) : Instr :=
  if (f.sync, f.cmd) = (0x62#8, 0x33#8) then
    .frameDist f.len (cat16 f.addrHi f.addrLo) (cat16 f.data0 f.data1) f.status f.checksum
  else
    .respConfig f.sync f.cmd f.len (cat16 f.addrHi f.addrLo) (cat16 f.data0 f.data1) f.status f.checksum

/-- The row of a frame of which nothing but its bits is known: the first command row that it matches, the
mode request of the SetUploadMode pair taken as AUTO (that row stands first), else a sensor row (log 9). -/
def decodeTableFrame (f : Frame) : Instr :=
  let m : Mreq := if isSetUploadModePair f.sync f.cmd then .auto else .none
  match decodeCommand m f with
  | .ok i => i
  | .error _ => decodeSensor f

/-- The instruction that the decoder reads from a row's bits: an operation word where they fit one, else
a frame. -/
def decodeTableWord (nbits w : Nat) : Option Instr :=
  if nbits ≤ 64 then
    match decodeOp (BitVec.ofNat 64 w) with
    | .ok i => some i
    | .error _ => none
  else some (decodeTableFrame (Frame.ofBits (BitVec.ofNat 72 w)))

/-! ### Encoders -/

/-- R95: the 72-bit value of a frame. -/
def Frame.toBits (f : Frame) : FrameBits :=
  f.sync ++ f.cmd ++ f.len ++ f.addrHi ++ f.addrLo ++ f.data0 ++ f.data1 ++ f.status ++ f.checksum

/-- R82: a word of format Z. -/
def zWord (op : BitVec 4) : OpWord := op ++ 0#60

/-- R83: the word of `RXB b`. -/
def rxbWord (b : Byte) : OpWord := 0x1#4 ++ 0#52 ++ b

/-- R84: the word of a START*. -/
def startWord (a : StartArgs) : OpWord :=
  0x3#4 ++ 0#2 ++ mreqBits a.mreq ++ a.sync ++ a.cmd ++ a.addr ++ a.p0 ++ a.p1 ++ a.p2

/-- The operation words of an instruction: one for an operation, the one it expands to for a command
pseudo-instruction (R170), nine RXB for a frame that the serial receiver delivers (R92's RXS). -/
def encode : Instr → List OpWord
  | .nop => [zWord 0x0#4]
  | .rxb b => [rxbWord b]
  | .poll => [zWord 0x2#4]
  | .start sync cmd addr p0 p1 p2 => [startWord ⟨.none, sync, cmd, addr, p0, p1, p2⟩]
  | .startMan sync cmd addr p0 p1 p2 => [startWord ⟨.manual, sync, cmd, addr, p0, p1, p2⟩]
  | .startAuto sync cmd addr p0 p1 p2 => [startWord ⟨.auto, sync, cmd, addr, p0, p1, p2⟩]
  | .timeout => [zWord 0x4#4]
  | .txfail => [zWord 0x5#4]
  | .flush => [zWord 0x6#4]
  | .brst => [zWord 0x7#4]
  | .resetHard pos addr => [startWord (resetHardArgs pos addr)]
  | .resetSoft pos addr => [startWord (resetSoftArgs pos addr)]
  | .setAddr addr new => [startWord (setAddrArgs addr new)]
  | .setBaud addr p0 p1 p2 => [startWord (setBaudArgs addr p0 p1 p2)]
  | .setUpModeAuto addr p0 p1 p2 => [startWord (setUpModeAutoArgs addr p0 p1 p2)]
  | .setUpModeMan addr p0 p1 p2 => [startWord (setUpModeManArgs addr p0 p1 p2)]
  | .setUpInt addr p0 p1 p2 => [startWord (setUpIntArgs addr p0 p1 p2)]
  | .setCommA addr p0 p1 p2 => [startWord (setCommAArgs addr p0 p1 p2)]
  | .setCommB addr p0 p1 p2 => [startWord (setCommBArgs addr p0 p1 p2)]
  | .setLed addr p0 p1 p2 => [startWord (setLedArgs addr p0 p1 p2)]
  | .setRelay addr p0 p1 p2 => [startWord (setRelayArgs addr p0 p1 p2)]
  | .readDist addr => [startWord (readDistArgs addr)]
  | .respConfig sync cmd len addr data status checksum =>
    (respConfigFrame sync cmd len addr data status checksum).bytes.map rxbWord
  | .frameDist len addr dist status checksum =>
    (frameDistFrame len addr dist status checksum).bytes.map rxbWord

/-- The START* operands of a START* or of a command pseudo-instruction (R170), none for the rest. -/
def startArgsOf : Instr → Option StartArgs
  | .nop => none
  | .rxb _ => none
  | .poll => none
  | .start sync cmd addr p0 p1 p2 => some ⟨.none, sync, cmd, addr, p0, p1, p2⟩
  | .startMan sync cmd addr p0 p1 p2 => some ⟨.manual, sync, cmd, addr, p0, p1, p2⟩
  | .startAuto sync cmd addr p0 p1 p2 => some ⟨.auto, sync, cmd, addr, p0, p1, p2⟩
  | .timeout => none
  | .txfail => none
  | .flush => none
  | .brst => none
  | .resetHard pos addr => some (resetHardArgs pos addr)
  | .resetSoft pos addr => some (resetSoftArgs pos addr)
  | .setAddr addr new => some (setAddrArgs addr new)
  | .setBaud addr p0 p1 p2 => some (setBaudArgs addr p0 p1 p2)
  | .setUpModeAuto addr p0 p1 p2 => some (setUpModeAutoArgs addr p0 p1 p2)
  | .setUpModeMan addr p0 p1 p2 => some (setUpModeManArgs addr p0 p1 p2)
  | .setUpInt addr p0 p1 p2 => some (setUpIntArgs addr p0 p1 p2)
  | .setCommA addr p0 p1 p2 => some (setCommAArgs addr p0 p1 p2)
  | .setCommB addr p0 p1 p2 => some (setCommBArgs addr p0 p1 p2)
  | .setLed addr p0 p1 p2 => some (setLedArgs addr p0 p1 p2)
  | .setRelay addr p0 p1 p2 => some (setRelayArgs addr p0 p1 p2)
  | .readDist addr => some (readDistArgs addr)
  | .respConfig _ _ _ _ _ _ _ => none
  | .frameDist _ _ _ _ _ => none

/-- The frame of a sensor row (R183, R184), none for the rest. -/
def sensorFrameOf : Instr → Option Frame
  | .respConfig sync cmd len addr data status checksum =>
    some (respConfigFrame sync cmd len addr data status checksum)
  | .frameDist len addr dist status checksum => some (frameDistFrame len addr dist status checksum)
  | .nop | .rxb _ | .poll | .start .. | .startMan .. | .startAuto .. | .timeout | .txfail | .flush
  | .brst | .resetHard .. | .resetSoft .. | .setAddr .. | .setBaud .. | .setUpModeAuto ..
  | .setUpModeMan .. | .setUpInt .. | .setCommA .. | .setCommB .. | .setLed .. | .setRelay ..
  | .readDist _ => none

end Sys2Proof
end

