-- ==== Sys2Proof/Machine/State.lean ====
section
/-! DEFINITION. The state of the FCR: everything 10_state.md R20 lists, and two fields of the model's own,
the event history (R44) and the transfers pending at the operation port (00_scope.md R6, R15). -/

namespace Sys2Proof.Machine

/-- 10_state.md R22. -/
inductive ExchangeState
  | idle
  | wait
  deriving DecidableEq, Repr

/-- 10_state.md R24. -/
inductive UploadMode
  | manual
  | auto
  deriving DecidableEq, Repr

/-- The events of the response and transmit ports, 10_state.md R44. -/
inductive Event
  | done
  | overrun (b : Byte)
  | illegal (w : OpWord)
  | ignored
  | pollBusy
  | pollNotAuto
  | pollNone
  | sample (a d : Half)
  | discard (b : Byte)
  | tx (f : Frame)
  | started
  | rejected (c : OutcomeCode)
  /-- `ExchDone(c, a, d, s)`: completion with a structurally valid frame. -/
  | exchDoneResp (c : OutcomeCode) (a d : Half) (st : Byte)
  /-- `ExchDone(c)`: completion with an invalid frame, TIMEOUT or TXFAIL in WAIT. -/
  | exchDone (c : OutcomeCode)
  deriving DecidableEq, Repr

/-- What the environment presents to the FCR, one at a time (00_scope.md R6; log 1). -/
inductive PortItem
  /-- one operation word (30_encoding.md R80) -/
  | word (w : OpWord)
  /-- one line of R92's assembler: an operation, or a pseudo-instruction run whole (log 2) -/
  | line (i : Instr)
  /-- the reset input (70_reset_and_hazards.md R230; log 3) -/
  | resetInput
  deriving DecidableEq, Repr

/-- The faults. No operation raises one (60_exceptions.md R200): both belong to the checked read of the
register read port, `readRegChecked`, as 10_state.md R41 asks. -/
inductive Fault
  /-- Raised by a checked read of LAST while LAST_VALID = 0 (R41). Safe: the hardware returns stored bits,
  and no claim may take them for a distance. -/
  | noSample
  /-- Raised by a checked read of RESP or RESPST when OUTCOME is not 1 or 5 or EXST is not IDLE (R41).
  Safe: the hardware returns stored bits, and no claim may take them for a response. -/
  | noResponse
  deriving DecidableEq, Repr

/-- The refusals. The FCR refuses no step (41_block_ops.md R130), so no meaning raises one. -/
inductive Refusal
  /-- Reserved for an instruction of the table without a meaning in `exec`; every one has its meaning, so
  nothing raises it. Safe. -/
  | notModelled (mnemonic : String)
  deriving DecidableEq, Repr

/-- The state. Fields down to `q` are R20's; `events` and `port` are the model's own (log 1, log 4). -/
structure State where
  /-- EXST, R22 -/
  exst : ExchangeState
  /-- EXP_SYNC, R23 -/
  expSync : Byte
  /-- EXP_CMD, R23 -/
  expCmd : Byte
  /-- EXP_MREQ, R23 -/
  expMreq : Mreq
  /-- EXP_KIND, R23 -/
  expKind : Kind
  /-- MODE, R24 -/
  mode : UploadMode
  /-- LAST_DIST, R25 -/
  lastDist : Half
  /-- LAST_ADDR, R25 -/
  lastAddr : Half
  /-- LAST_VALID, R25 -/
  lastValid : Bool
  /-- RESP_ADDR, R26 -/
  respAddr : Half
  /-- RESP_DATA, R26 -/
  respData : Half
  /-- RESP_STATUS, R26 -/
  respStatus : Byte
  /-- OUTCOME, R27 -/
  outcome : OutcomeCode
  /-- OVR, R28 -/
  ovr : Bool
  /-- ILL, R29 -/
  ill : Bool
  /-- the receive queue, its oldest byte at the head, R30 -/
  q : List Byte
  /-- the event history, oldest first, R44 -/
  events : List Event
  /-- the transfers still to come, in the order they reach the port, R15 -/
  port : List PortItem
  deriving DecidableEq, Repr

/-- The machine right after reset at the start of a run: R46, no event yet and nothing pending. -/
def State.reset : State where
  exst := .idle
  expSync := 0x00#8
  expCmd := 0x00#8
  expMreq := .none
  expKind := .config
  mode := .manual
  lastDist := 0x0000#16
  lastAddr := 0x0000#16
  lastValid := false
  respAddr := 0x0000#16
  respData := 0x0000#16
  respStatus := 0x00#8
  outcome := .none
  ovr := false
  ill := false
  q := []
  events := []
  port := []

end Sys2Proof.Machine
end

