-- ==== Sys2Proof/Machine/Flags.lean ====
section
/-! DEFINITION. The status fields and the register read port: the sticky flags (10_state.md R28, R29;
60_exceptions.md R208), the STATUS word (R34), the register map (R35 to R40), and the checked read that
R41 asks for. -/

namespace Sys2Proof.Machine

/-- 60_exceptions.md R201: the 4-bit code of an outcome. -/
def OutcomeCode.code : OutcomeCode → BitVec 4
  | .none => 0#4
  | .success => 1#4
  | .timeout => 2#4
  | .checksumError => 3#4
  | .responseError => 4#4
  | .deviceRejected => 5#4
  | .transportError => 6#4
  | .paramError => 7#4
  | .modeConflict => 8#4
  | .busy => 9#4

/-- R22: the bit of EXST. -/
def exstBit : ExchangeState → BitVec 1
  | .idle => 0#1
  | .wait => 1#1

/-- R24: the bit of MODE. -/
def modeBit : UploadMode → BitVec 1
  | .manual => 0#1
  | .auto => 1#1

/-- R23: the bit of EXP_KIND. -/
def kindBit : Kind → BitVec 1
  | .config => 0#1
  | .dist => 1#1

/-- R28: an overrun sets OVR. -/
def setOvr (s : State) : State := { s with ovr := true }

/-- R28: FLUSH clears OVR. -/
def clearOvr (s : State) : State := { s with ovr := false }

/-- R29: an illegal word sets ILL. -/
def setIll (s : State) : State := { s with ill := true }

/-- R34: register 0, STATUS. -/
def statusWord (s : State) : RegWord :=
  0#20 ++ s.outcome.code ++ 0#3 ++ BitVec.ofBool s.ill ++ BitVec.ofBool s.ovr ++ BitVec.ofBool s.lastValid
    ++ modeBit s.mode ++ exstBit s.exst

/-- R38: register 4, EXP. -/
def expWord (s : State) : RegWord :=
  0#13 ++ kindBit s.expKind ++ mreqBits s.expMreq ++ s.expCmd ++ s.expSync

/-- R33 to R40: the word the hardware returns for a register index. A read changes no state. -/
def readReg (s : State) (idx : BitVec 8) : RegWord :=
  if idx = 0#8 then statusWord s
  else if idx = 1#8 then s.lastAddr ++ s.lastDist
  else if idx = 2#8 then s.respAddr ++ s.respData
  else if idx = 3#8 then 0#24 ++ s.respStatus
  else if idx = 4#8 then expWord s
  else if idx = 5#8 then 0#16 ++ BitVec.ofNat 16 s.q.length
  else 0#32

/-- R41: the RESP registers carry the last exchange's response. -/
def holdsResponse (s : State) : Bool :=
  (s.outcome == .success || s.outcome == .deviceRejected) && s.exst == .idle

/-- R41: the read that a claim may use: as `readReg`, but LAST without a sample and RESP or RESPST without a
response have no value (log 6). -/
def readRegChecked (s : State) (idx : BitVec 8) : Except Fault RegWord :=
  if idx = 1#8 ∧ s.lastValid = false then .error .noSample
  else if (idx = 2#8 ∨ idx = 3#8) ∧ holdsResponse s = false then .error .noResponse
  else .ok (readReg s idx)

end Sys2Proof.Machine
end

