-- ==== Sys2Proof/Machine/Ops.lean ====
section
/-! DEFINITION. The shared operations of the step: emitting an event, the receive queue, opening, refusing,
completing and ending an exchange, the settle phase, reset. There are no exceptions to take
(60_exceptions.md R200, R207); what records an error in their place is here. -/

namespace Sys2Proof.Machine

/-! ### Named updates of the state -/

/-- `emit E` of 00_scope.md R12. -/
def emit (e : Event) (s : State) : State := { s with events := s.events ++ [e] }

/-- The receive queue replaced: `Append` and `Drop` of R12. -/
def setQueue (q : List Byte) (s : State) : State := { s with q := q }

/-- OUTCOME written (10_state.md R27). -/
def setOutcome (o : OutcomeCode) (s : State) : State := { s with outcome := o }

/-- The end of an exchange: its outcome, and IDLE (R22, R27). -/
def endExchange (o : OutcomeCode) (s : State) : State := { s with outcome := o, exst := .idle }

/-- RESP_* written (R26). -/
def storeResp (d : Fields) (s : State) : State :=
  { s with respAddr := d.addr, respData := d.data, respStatus := d.status }

/-- A distance sample stored (R25; 40_codec.md R111). -/
def storeSample (d : Fields) (s : State) : State :=
  { s with lastAddr := d.addr, lastDist := d.data, lastValid := true }

/-- MODE written (R24). -/
def setMode (m : UploadMode) (s : State) : State := { s with mode := m }

/-- An exchange opened: EXP_*, OUTCOME pending, WAIT (41_block_ops.md R135). -/
def openExchange (a : StartArgs) (s : State) : State :=
  { s with expSync := a.sync, expCmd := a.cmd, expMreq := a.mreq, expKind := kindOf a.sync a.cmd,
           outcome := .none, exst := .wait }

/-- The transfers still pending, replaced: a transfer leaves the port when its step takes it. -/
def setPort (p : List PortItem) (s : State) : State := { s with port := p }

/-! ### Completion and the settle phase -/

/-- R132: the mode that a successful exchange confirms, if it was a mode exchange with a request. -/
def confirmedMode (s : State) : Option UploadMode :=
  if isSetUploadModePair s.expSync s.expCmd then
    match s.expMreq with
    | .none => none
    | .manual => some .manual
    | .auto => some .auto
  else none

/-- R132: what a SUCCESS does to the session registers. -/
def recordSuccess (d : Fields) (s : State) : State :=
  let sampled := if s.expKind = .dist then storeSample d s else s
  match confirmedMode s with
  | some m => setMode m sampled
  | none => sampled

/-- R132: `Complete()` on the window `w`, the nine oldest bytes, which are removed whatever they are. -/
def complete (w : Frame) (s : State) : State :=
  let v := validate w s.expSync s.expCmd
  let o := classify s.expKind v w.status
  let s := endExchange o (setQueue (s.q.drop Config.frameLen) s)
  if v = .ok then
    let d := fieldsOf w
    let s := storeResp d s
    let s := if o = .success then recordSuccess d s else s
    emit (.exchDoneResp o d.addr d.data d.status) s
  else emit (.exchDone o) s

/-- R131: the settle phase. -/
def settle (s : State) : State :=
  match s.exst, peek9 s.q with
  | .wait, some w => complete w s
  | .wait, none => s
  | .idle, _ => s

/-- R130: a main phase followed by the settle phase; every operation is one such step, and none stops. -/
def runOp (main : State → State) (s : State) : Host.Outcome State Fault Refusal :=
  .next (settle (main s))

/-! ### Main phases -/

/-- R133: one byte from the serial receiver. -/
def rxbMain (b : Byte) (s : State) : State :=
  if s.q.length < Config.rxqDepth then emit .done (setQueue (s.q ++ [b]) s)
  else emit (.overrun b) (setOvr s)

/-- R134: one step of the streaming resynchronizer. -/
def pollMain (s : State) : State :=
  if s.exst = .wait then emit .pollBusy s
  else if s.mode = .manual then emit .pollNotAuto s
  else
    match peek9 s.q with
    | none => emit .pollNone s
    | some w =>
      if validate w Config.sync Config.cmdDist = .ok then
        let d := fieldsOf w
        emit (.sample d.addr d.data) (storeSample d (setQueue (s.q.drop Config.frameLen) s))
      else emit (.discard w.sync) (setQueue (s.q.drop 1) s)

/-- R135: a START* refused for MODE_CONFLICT or PARAM_ERROR. -/
def refuseStart (o : OutcomeCode) (s : State) : State := emit (.rejected o) (setOutcome o s)

/-- R135: a START* accepted: the command frame to the transmitter, then the exchange opened. -/
def acceptStart (a : StartArgs) (s : State) : State :=
  emit .started (openExchange a (emit (.tx (commandFrame a)) s))

/-- R135, with the order of refusals of 60_exceptions.md R204. -/
def startMain (a : StartArgs) (s : State) : State :=
  if s.exst = .wait then emit (.rejected .busy) s
  else if kindOf a.sync a.cmd = .dist ∧ s.mode = .auto then refuseStart .modeConflict s
  else if isSetAddressPair a.sync a.cmd = true ∧ Config.addrMax < cat16 a.p0 a.p1 then
    refuseStart .paramError s
  else acceptStart a s

/-- R136, R137: a report that ends the outstanding exchange with the outcome `o`, or finds none. -/
def reportMain (o : OutcomeCode) (s : State) : State :=
  if s.exst = .wait then emit (.exchDone o) (endExchange o s) else emit .ignored s

/-- R138 -/
def flushMain (s : State) : State := emit .done (clearOvr (setQueue [] s))

/-- R230, R46: every register and the queue at its reset value; the event history and what is still to
come at the port are not state and stay. -/
def resetState (s : State) : State := { State.reset with events := s.events, port := s.port }

/-- R139 -/
def brstMain (s : State) : State := emit .done (resetState s)

/-- R140 -/
def nopMain (s : State) : State := emit .done s

/-- R141: an operation word that does not decode. -/
def illegalMain (w : OpWord) (s : State) : State := emit (.illegal w) (setIll s)

/-- R69, R92: the serial receiver delivers bytes in order, each an RXB operation of its own with its
settle phase (log 2). -/
def receive : List Byte → State → State
  | [], s => s
  | b :: bs, s => receive bs (settle (rxbMain b s))

/-- A frame delivered by the serial receiver. -/
def deliver (f : Frame) (s : State) : Host.Outcome State Fault Refusal := .next (receive f.bytes s)

end Sys2Proof.Machine
end

