-- ==== Sys2Proof/Machine/PortOps.lean ====
section
/-! DEFINITION. The operations of formats Z and B: 41_block_ops.md R133, R134, R136 to R140. -/

namespace Sys2Proof.Machine

/-- NOP, R140. -/
def execNop (s : State) : Host.Outcome State Fault Refusal := runOp nopMain s

/-- RXB, R133. -/
def execRxb (b : Byte) (s : State) : Host.Outcome State Fault Refusal := runOp (rxbMain b) s

/-- POLL, R134. -/
def execPoll (s : State) : Host.Outcome State Fault Refusal := runOp pollMain s

/-- TIMEOUT, R136. -/
def execTimeout (s : State) : Host.Outcome State Fault Refusal := runOp (reportMain .timeout) s

/-- TXFAIL, R137. -/
def execTxfail (s : State) : Host.Outcome State Fault Refusal := runOp (reportMain .transportError) s

/-- FLUSH, R138. -/
def execFlush (s : State) : Host.Outcome State Fault Refusal := runOp flushMain s

/-- BRST, R139. -/
def execBrst (s : State) : Host.Outcome State Fault Refusal := runOp brstMain s

end Sys2Proof.Machine
end

