-- ==== Sys2Proof/Machine/SensorFrames.lean ====
section
/-! DEFINITION. The frames the sensor sends, 42_wire_commands.md R183, R184: the serial receiver delivers
their nine bytes as nine RXB operations in line order (00_scope.md R6; 20_memory.md R69; 30_encoding.md
R92's RXS; log 2). -/

namespace Sys2Proof.Machine

/-- RESP.CONFIG, R183. -/
def execRespConfig (sync cmd len : Byte) (addr data : Half) (status checksum : Byte) (s : State) :
    Host.Outcome State Fault Refusal :=
  deliver (respConfigFrame sync cmd len addr data status checksum) s

/-- FRAME.DIST, R184. -/
def execFrameDist (len : Byte) (addr dist : Half) (status checksum : Byte) (s : State) :
    Host.Outcome State Fault Refusal :=
  deliver (frameDistFrame len addr dist status checksum) s

end Sys2Proof.Machine
end

