-- ==== Sys2Proof/Machine/StartOps.lean ====
section
/-! DEFINITION. The operations of format S: 41_block_ops.md R135, one for each mode request
(30_encoding.md R94). -/

namespace Sys2Proof.Machine

/-- START, R135 with MREQ = NONE. -/
def execStart (sync cmd : Byte) (addr : Half) (p0 p1 p2 : Byte) (s : State) :
    Host.Outcome State Fault Refusal :=
  runOp (startMain ⟨.none, sync, cmd, addr, p0, p1, p2⟩) s

/-- START.MAN, R135 with MREQ = MANUAL. -/
def execStartMan (sync cmd : Byte) (addr : Half) (p0 p1 p2 : Byte) (s : State) :
    Host.Outcome State Fault Refusal :=
  runOp (startMain ⟨.manual, sync, cmd, addr, p0, p1, p2⟩) s

/-- START.AUTO, R135 with MREQ = AUTO. -/
def execStartAuto (sync cmd : Byte) (addr : Half) (p0 p1 p2 : Byte) (s : State) :
    Host.Outcome State Fault Refusal :=
  runOp (startMain ⟨.auto, sync, cmd, addr, p0, p1, p2⟩) s

end Sys2Proof.Machine
end

