-- ==== Sys2Proof/Machine/WireCommands.lean ====
section
/-! DEFINITION. The command pseudo-instructions, 42_wire_commands.md R170 to R182: each runs the START*
operation it expands to, whose operands Machine/Operands.lean assembles. -/

namespace Sys2Proof.Machine

/-- RESET.HARD, R171. -/
def execResetHard (pos : SelPos) (addr : Half) (s : State) : Host.Outcome State Fault Refusal :=
  runOp (startMain (resetHardArgs pos addr)) s

/-- RESET.SOFT, R172. -/
def execResetSoft (pos : SelPos) (addr : Half) (s : State) : Host.Outcome State Fault Refusal :=
  runOp (startMain (resetSoftArgs pos addr)) s

/-- SETADDR, R173. -/
def execSetAddr (addr new : Half) (s : State) : Host.Outcome State Fault Refusal :=
  runOp (startMain (setAddrArgs addr new)) s

/-- SETBAUD, R174. -/
def execSetBaud (addr : Half) (p0 p1 p2 : Byte) (s : State) : Host.Outcome State Fault Refusal :=
  runOp (startMain (setBaudArgs addr p0 p1 p2)) s

/-- SETUPMODE.AUTO, R175. -/
def execSetUpModeAuto (addr : Half) (p0 p1 p2 : Byte) (s : State) : Host.Outcome State Fault Refusal :=
  runOp (startMain (setUpModeAutoArgs addr p0 p1 p2)) s

/-- SETUPMODE.MAN, R176. -/
def execSetUpModeMan (addr : Half) (p0 p1 p2 : Byte) (s : State) : Host.Outcome State Fault Refusal :=
  runOp (startMain (setUpModeManArgs addr p0 p1 p2)) s

/-- SETUPINT, R177. -/
def execSetUpInt (addr : Half) (p0 p1 p2 : Byte) (s : State) : Host.Outcome State Fault Refusal :=
  runOp (startMain (setUpIntArgs addr p0 p1 p2)) s

/-- SETCOMM.A, R178. -/
def execSetCommA (addr : Half) (p0 p1 p2 : Byte) (s : State) : Host.Outcome State Fault Refusal :=
  runOp (startMain (setCommAArgs addr p0 p1 p2)) s

/-- SETCOMM.B, R179. -/
def execSetCommB (addr : Half) (p0 p1 p2 : Byte) (s : State) : Host.Outcome State Fault Refusal :=
  runOp (startMain (setCommBArgs addr p0 p1 p2)) s

/-- SETLED, R180. -/
def execSetLed (addr : Half) (p0 p1 p2 : Byte) (s : State) : Host.Outcome State Fault Refusal :=
  runOp (startMain (setLedArgs addr p0 p1 p2)) s

/-- SETRELAY, R181. -/
def execSetRelay (addr : Half) (p0 p1 p2 : Byte) (s : State) : Host.Outcome State Fault Refusal :=
  runOp (startMain (setRelayArgs addr p0 p1 p2)) s

/-- READDIST, R182. -/
def execReadDist (addr : Half) (s : State) : Host.Outcome State Fault Refusal :=
  runOp (startMain (readDistArgs addr)) s

end Sys2Proof.Machine
end

