-- ==== Sys2Proof/Machine/Dispatch.lean ====
section
/-! DEFINITION. The dispatch: one arm per instruction, each one call of its meaning. -/

namespace Sys2Proof.Machine

def exec (i : Instr) (s : State) : Host.Outcome State Fault Refusal :=
  match i with
  | .nop => Sys2Proof.Machine.execNop s
  | .rxb b => Sys2Proof.Machine.execRxb b s
  | .poll => Sys2Proof.Machine.execPoll s
  | .start sync cmd addr p0 p1 p2 => Sys2Proof.Machine.execStart sync cmd addr p0 p1 p2 s
  | .startMan sync cmd addr p0 p1 p2 => Sys2Proof.Machine.execStartMan sync cmd addr p0 p1 p2 s
  | .startAuto sync cmd addr p0 p1 p2 => Sys2Proof.Machine.execStartAuto sync cmd addr p0 p1 p2 s
  | .timeout => Sys2Proof.Machine.execTimeout s
  | .txfail => Sys2Proof.Machine.execTxfail s
  | .flush => Sys2Proof.Machine.execFlush s
  | .brst => Sys2Proof.Machine.execBrst s
  | .resetHard pos addr => Sys2Proof.Machine.execResetHard pos addr s
  | .resetSoft pos addr => Sys2Proof.Machine.execResetSoft pos addr s
  | .setAddr addr new => Sys2Proof.Machine.execSetAddr addr new s
  | .setBaud addr p0 p1 p2 => Sys2Proof.Machine.execSetBaud addr p0 p1 p2 s
  | .setUpModeAuto addr p0 p1 p2 => Sys2Proof.Machine.execSetUpModeAuto addr p0 p1 p2 s
  | .setUpModeMan addr p0 p1 p2 => Sys2Proof.Machine.execSetUpModeMan addr p0 p1 p2 s
  | .setUpInt addr p0 p1 p2 => Sys2Proof.Machine.execSetUpInt addr p0 p1 p2 s
  | .setCommA addr p0 p1 p2 => Sys2Proof.Machine.execSetCommA addr p0 p1 p2 s
  | .setCommB addr p0 p1 p2 => Sys2Proof.Machine.execSetCommB addr p0 p1 p2 s
  | .setLed addr p0 p1 p2 => Sys2Proof.Machine.execSetLed addr p0 p1 p2 s
  | .setRelay addr p0 p1 p2 => Sys2Proof.Machine.execSetRelay addr p0 p1 p2 s
  | .readDist addr => Sys2Proof.Machine.execReadDist addr s
  | .respConfig sync cmd len addr data status checksum => Sys2Proof.Machine.execRespConfig sync cmd len addr data status checksum s
  | .frameDist len addr dist status checksum => Sys2Proof.Machine.execFrameDist len addr dist status checksum s

end Sys2Proof.Machine
end

