-- ==== Sys2Proof/Machine/Fetch.lean ====
section
/-! DEFINITION. What the FCR makes of a transfer at its port, 41_block_ops.md R130: how it decodes, and what the
decoded transfer does. -/

namespace Sys2Proof.Machine

/-- A transfer after decoding. -/
inductive Fetched
  /-- an instruction to run -/
  | run (i : Instr)
  /-- an operation word that does not decode (R141) -/
  | illegal (w : OpWord)
  /-- the reset input (R230) -/
  | resetInput
  deriving DecidableEq, Repr

/-- R130 (1): decode the transfer. -/
def fetchItem : PortItem → Fetched
  | .word w =>
    match decodeOp w with
    | .ok i => .run i
    | .error _ => .illegal w
  | .line i => .run i
  | .resetInput => .resetInput

/-- What a fetched transfer does: an instruction runs; an illegal word runs R141 and the settle phase; the
reset input resets and emits nothing (70_reset_and_hazards.md R230; log 3). -/
def runFetched (f : Fetched) (s : State) : Host.Outcome State Fault Refusal :=
  match f with
  | .run i => exec i s
  | .illegal w => runOp (illegalMain w) s
  | .resetInput => .next (resetState s)

/-- The transfer of a row's bits: an operation word where they fit one, else the frame row's line. -/
def tableItem (nbits w : Nat) : PortItem :=
  if nbits ≤ 64 then .word (BitVec.ofNat 64 w)
  else .line (decodeTableFrame (Frame.ofBits (BitVec.ofNat 72 w)))

end Sys2Proof.Machine
end

