-- ==== Sys2Proof/Machine/Step.lean ====
section
/-! DEFINITION. One step of the machine: it takes the next transfer at the port (41_block_ops.md R130). -/

namespace Sys2Proof.Machine

/-- One step: the oldest pending transfer leaves the port and runs. With nothing pending the FCR stays as it
is, since the port is the only way its state changes (10_state.md R21; log 1). -/
def step (s : State) : Host.Outcome State Fault Refusal :=
  match s.port with
  | [] => .next s
  | item :: rest => runFetched (fetchItem item) (setPort rest s)

/-- `s` with the row's transfer next at the port, before whatever was pending. -/
def State.withFetchWord (s : State) (nbits w : Nat) : State :=
  setPort (tableItem nbits w :: s.port) s

end Sys2Proof.Machine
end

