-- ==== Sys2Proof/Safety.lean ====
section
/-! DEFINITION. The terms in which claims about the FCR are stated: its invariants, what resets it, which
events answer which instruction, and short names for operations of the table. -/

namespace Sys2Proof

open Machine

/-- The ten rows of the table that are operation words (30_encoding.md R93). -/
def Instr.isOperation : Instr → Bool
  | .nop | .rxb _ | .poll | .start .. | .startMan .. | .startAuto .. | .timeout | .txfail | .flush
  | .brst => true
  | .resetHard .. | .resetSoft .. | .setAddr .. | .setBaud .. | .setUpModeAuto .. | .setUpModeMan ..
  | .setUpInt .. | .setCommA .. | .setCommB .. | .setLed .. | .setRelay .. | .readDist _
  | .respConfig .. | .frameDist .. => false

/-- The exclusive-or of two frames byte by byte: `f.xor e` is `f` with the bits set in `e` flipped
(40_codec.md R109). -/
def Frame.xor (f e : Frame) : Frame :=
  ⟨f.sync ^^^ e.sync, f.cmd ^^^ e.cmd, f.len ^^^ e.len, f.addrHi ^^^ e.addrHi, f.addrLo ^^^ e.addrLo,
   f.data0 ^^^ e.data0, f.data1 ^^^ e.data1, f.status ^^^ e.status, f.checksum ^^^ e.checksum⟩

namespace Machine

/-- 10_state.md R31: a waiting exchange has fewer than nine bytes queued. -/
abbrev State.Settled (s : State) : Prop := s.exst = .wait → s.q.length < 9

/-- The invariant of every run: R31, R32, and of R22, R23 and R27 that a pending exchange has OUTCOME NONE,
that BUSY is never in OUTCOME, and that EXP_KIND is the kind of the expected pair. -/
structure State.Inv (s : State) : Prop where
  settled : s.Settled
  bounded : s.q.length ≤ Config.rxqDepth
  pending : s.exst = .wait → s.outcome = .none
  notBusy : s.outcome ≠ .busy
  kind : s.expKind = kindOf s.expSync s.expCmd

/-- 10_state.md R46: every register and the queue at its reset value. -/
abbrev State.HasResetValues (s : State) : Prop :=
  s.exst = .idle ∧ s.expSync = 0x00#8 ∧ s.expCmd = 0x00#8 ∧ s.expMreq = .none ∧ s.expKind = .config ∧
  s.mode = .manual ∧ s.lastDist = 0x0000#16 ∧ s.lastAddr = 0x0000#16 ∧ s.lastValid = false ∧
  s.respAddr = 0x0000#16 ∧ s.respData = 0x0000#16 ∧ s.respStatus = 0x00#8 ∧ s.outcome = .none ∧
  s.ovr = false ∧ s.ill = false ∧ s.q = []

/-- The transfer resets the FCR: BRST or the reset input (70_reset_and_hazards.md R230). -/
def Fetched.resets : Fetched → Bool
  | .run i => i == .brst
  | .illegal _ => false
  | .resetInput => true

/-- The operation of format S with a mode request (30_encoding.md R94). -/
def startInstr (m : Mreq) (sync cmd : Byte) (addr : Half) (p0 p1 p2 : Byte) : Instr :=
  match m with
  | .none => .start sync cmd addr p0 p1 p2
  | .manual => .startMan sync cmd addr p0 p1 p2
  | .auto => .startAuto sync cmd addr p0 p1 p2

/-- The state that an accepted START* leaves before its settle phase (41_block_ops.md R135): the frame sent,
the exchange open. -/
def opened (s : State) (m : Mreq) (sync cmd : Byte) (f : Frame) : State :=
  { s with exst := .wait, expSync := sync, expCmd := cmd, expMreq := m,
           expKind := if sync = 0x62#8 ∧ cmd = 0x33#8 then .dist else .config,
           outcome := .none, events := s.events ++ [.tx f, .started] }

/-- The mode that a successful exchange leaves (41_block_ops.md R132). -/
def modeAfter (s : State) : UploadMode :=
  if s.expSync = 0x62#8 ∧ s.expCmd = 0x34#8 then
    match s.expMreq with
    | .none => s.mode
    | .manual => .manual
    | .auto => .auto
  else s.mode

/-- The event is the end of an exchange. -/
def Event.isExchDone : Event → Bool
  | .exchDone _ => true
  | .exchDoneResp _ _ _ _ => true
  | _ => false

/-- The five answers of POLL (41_block_ops.md R134). -/
def Event.isPollResponse : Event → Bool
  | .pollBusy | .pollNotAuto | .pollNone | .sample _ _ | .discard _ => true
  | _ => false

/-- The four answers of a START* (41_block_ops.md R135). -/
def Event.isStartResponse : Event → Bool
  | .started | .rejected .busy | .rejected .modeConflict | .rejected .paramError => true
  | _ => false

/-- The response events that the rule of an operation names (10_state.md R43, R44; 41_block_ops.md R133 to
R140), none for a row that is no operation. -/
def responds (i : Instr) (e : Event) : Bool :=
  match i with
  | .nop | .flush | .brst => e == .done
  | .rxb b => e == .done || e == .overrun b
  | .poll => e.isPollResponse
  | .start .. | .startMan .. | .startAuto .. => e.isStartResponse
  | .timeout => e == .exchDone .timeout || e == .ignored
  | .txfail => e == .exchDone .transportError || e == .ignored
  | .resetHard .. | .resetSoft .. | .setAddr .. | .setBaud .. | .setUpModeAuto .. | .setUpModeMan ..
  | .setUpInt .. | .setCommA .. | .setCommB .. | .setLed .. | .setRelay .. | .readDist _
  | .respConfig .. | .frameDist .. => false

/-- A window that POLL accepts (41_block_ops.md section 4): the nine bytes at the head are a structurally
valid distance frame. -/
def validWindow (bs : List Byte) : Bool :=
  match peek9 bs with
  | some w => validate w 0x62#8 0x33#8 == .ok
  | none => false

/-- The Sample event of a window (41_block_ops.md R134). -/
def sampleOf (w : Frame) : Event := .sample (cat16 w.addrHi w.addrLo) (cat16 w.data0 w.data1)

/-- A number of bytes of which some bit position is set in an odd number (40_codec.md R109). -/
def oddFlips (bs : List Byte) : Prop := ∃ j, j < 8 ∧ (bs.countP fun b => b.getLsbD j) % 2 = 1

/-- The events of one step: what is new in the history. -/
def newEvents (s t : State) : List Event := t.events.drop s.events.length

/-- The transfer that the next step takes, decoded. -/
def nextFetched (s : State) : Option Fetched := s.port.head?.map fetchItem

/-- The next transfer resets the FCR. -/
def nextResets (s : State) : Prop := ∃ f, nextFetched s = some f ∧ f.resets = true

/-- The word of POLL (41_block_ops.md R134). -/
abbrev pollWord : OpWord := 0x2000000000000000#64

end Machine

end Sys2Proof
end

