-- ==== Sys2Proof/WellFormed.lean ====
section
/-! DEFINITION. Which instructions are well formed. Every operand is a bit-field that any value fits
(30_encoding.md R84, R92), so the one thing to check is the pair of a configuration response: a frame
with the distance pair is a distance frame, the other sensor row (42_wire_commands.md R183, R184). -/

namespace Sys2Proof

/-- R183: a configuration response carries the pair of a configuration command, and (0x62,0x33) is the
pair of the distance frame (R184); log 11. -/
def isConfigPair (sync cmd : Byte) : Bool :=
  !(sync == Config.sync && cmd == Config.cmdDist)

/-- An instruction whose operands the spec admits for its row. -/
def Instr.wellFormed : Instr → Bool
  | .nop => true
  | .rxb _ => true
  | .poll => true
  | .start _ _ _ _ _ _ => true
  | .startMan _ _ _ _ _ _ => true
  | .startAuto _ _ _ _ _ _ => true
  | .timeout => true
  | .txfail => true
  | .flush => true
  | .brst => true
  | .resetHard _ _ => true
  | .resetSoft _ _ => true
  | .setAddr _ _ => true
  | .setBaud _ _ _ _ => true
  | .setUpModeAuto _ _ _ _ => true
  | .setUpModeMan _ _ _ _ => true
  | .setUpInt _ _ _ _ => true
  | .setCommA _ _ _ _ => true
  | .setCommB _ _ _ _ => true
  | .setLed _ _ _ _ => true
  | .setRelay _ _ _ _ => true
  | .readDist _ => true
  | .respConfig sync cmd _ _ _ _ _ => isConfigPair sync cmd
  | .frameDist _ _ _ _ _ => true

end Sys2Proof
end

