-- ==== Sys2Proof/Certificates/Slice0/Obligations.lean ====
section
/-! DEFINITION. The statements for the provers. Every one about an instruction gives its whole next state, so
what the instruction leaves unchanged is said with what it changes. The FCR has no addressable memory
(20_memory.md R60): the receive queue is its only store of bytes. -/

open Sys2Proof Sys2Proof.Machine

/-! ### Reset -/

/-- R46: the reset values, at the start of a run, after BRST and after the reset input. -/
def Obligations.ResetLeavesEveryR46Value : Prop :=
  State.reset.HasResetValues ∧
  (∀ s, ∃ t, exec .brst s = .next t ∧ t.HasResetValues) ∧
  (∀ s rest, s.port = .resetInput :: rest → ∃ t, step s = .next t ∧ t.HasResetValues)

/-- R139: BRST resets every register and the queue, emits Done, keeps the history; the registers read 0; its
effect on the registers and the queue is the reset input's. -/
def Obligations.BrstResetsAndKeepsTheHistory : Prop :=
  decodeOp 0x7000000000000000#64 = .ok .brst ∧
  ∀ s, exec .brst s = .next { State.reset with events := s.events ++ [.done], port := s.port } ∧
    (∀ t, exec .brst s = .next t → ∀ idx, readReg t idx = 0#32) ∧
    ∀ u rest, u.port = .resetInput :: rest → { u with port := rest } = s →
      ∃ t t', exec .brst s = .next t ∧ step u = .next t' ∧ { t with events := t'.events } = t'

/-- R230, with the model's choice that the reset input emits no event (log 3). -/
def Obligations.ResetInputResetsSilently : Prop :=
  ∀ s rest, s.port = .resetInput :: rest →
    step s = .next { State.reset with events := s.events, port := rest }

/-! ### Fetching -/

/-- R130 (1): a step takes the oldest operation word off the port and runs the instruction it decodes to. The
other two clauses are the model's choices: that an assembler line may stand at the port and runs whole in one step
(log 2), and that with nothing pending the state stays (log 1). -/
def Obligations.StepRunsTheNextTransfer : Prop :=
  (∀ s w i rest, s.port = .word w :: rest → decodeOp w = .ok i → step s = exec i { s with port := rest }) ∧
  (∀ s i rest, s.port = .line i :: rest → step s = exec i { s with port := rest }) ∧
  (∀ s, s.port = [] → step s = .next s)

/-- The host's placement of a table row makes the next step run the row's instruction. The model's choices: that a
transfer is placed from outside (log 1), that a frame row's line runs in one step (log 2), and which row the bits
of a frame are read as (log 9). -/
def Obligations.PlacedRowRunsNext : Prop :=
  ∀ s nbits w i, decodeTableWord nbits w = some i → step (s.withFetchWord nbits w) = exec i s

/-- Some words and frames of 95_test_vectors.md (2.6, 2.9) decode to what stands beside them there. -/
def Obligations.SampleWordsDecode : Prop :=
  decodeOp 0x10000000000000FF#64 = .ok (.rxb 0xFF#8) ∧
  decodeOp 0x2000000000000000#64 = .ok .poll ∧
  decodeOp 0x306232FFFF123400#64 = .ok (.start 0x62#8 0x32#8 0xFFFF#16 0x12#8 0x34#8 0x00#8) ∧
  decodeOp 0x316234FFFF000000#64 = .ok (.startMan 0x62#8 0x34#8 0xFFFF#16 0x00#8 0x00#8 0x00#8) ∧
  decodeOp 0x326234FFFF010000#64 = .ok (.startAuto 0x62#8 0x34#8 0xFFFF#16 0x01#8 0x00#8 0x00#8) ∧
  decodeOp 0x336234FFFF000000#64 = .error .reservedMreq ∧
  decodeOp 0x8000000000000000#64 = .error .reservedOp ∧
  decodeTableWord 72 0x623209FFFF1234007F = some (.setAddr 0xFFFF#16 0x1234#16) ∧
  decodeTableWord 72 0x623909FFFFFD0000AF = some (.resetSoft .byte5 0xFFFF#16) ∧
  decodeSensor (Frame.ofBits 0x623309FFFF01F400AD#72) = .frameDist 0x09#8 0xFFFF#16 0x01F4#16 0x00#8 0xAD#8 ∧
  decodeSensor (Frame.ofBits 0x623709FFFF0000663A#72) =
    .respConfig 0x62#8 0x37#8 0x09#8 0xFFFF#16 0x0000#16 0x66#8 0x3A#8

/-! ### Encoding -/

/-- R93: the decoding of a word is that of the one row of the rule's table whose condition it meets, and
illegal where it meets none. -/
def Obligations.WordsDecodeByTheTable : Prop :=
  ∀ w : OpWord,
    (w = 0x0000000000000000#64 → decodeOp w = .ok .nop) ∧
    (w.extractLsb' 8 56 = 0x10000000000000#56 → decodeOp w = .ok (.rxb (w.extractLsb' 0 8))) ∧
    (w = 0x2000000000000000#64 → decodeOp w = .ok .poll) ∧
    (w.extractLsb' 56 8 = 0x30#8 → decodeOp w = .ok (.start (w.extractLsb' 48 8) (w.extractLsb' 40 8)
      (w.extractLsb' 24 16) (w.extractLsb' 16 8) (w.extractLsb' 8 8) (w.extractLsb' 0 8))) ∧
    (w.extractLsb' 56 8 = 0x31#8 → decodeOp w = .ok (.startMan (w.extractLsb' 48 8) (w.extractLsb' 40 8)
      (w.extractLsb' 24 16) (w.extractLsb' 16 8) (w.extractLsb' 8 8) (w.extractLsb' 0 8))) ∧
    (w.extractLsb' 56 8 = 0x32#8 → decodeOp w = .ok (.startAuto (w.extractLsb' 48 8) (w.extractLsb' 40 8)
      (w.extractLsb' 24 16) (w.extractLsb' 16 8) (w.extractLsb' 8 8) (w.extractLsb' 0 8))) ∧
    (w = 0x4000000000000000#64 → decodeOp w = .ok .timeout) ∧
    (w = 0x5000000000000000#64 → decodeOp w = .ok .txfail) ∧
    (w = 0x6000000000000000#64 → decodeOp w = .ok .flush) ∧
    (w = 0x7000000000000000#64 → decodeOp w = .ok .brst) ∧
    ((∃ r, decodeOp w = .error r) ↔
      ¬ (w = 0x0000000000000000#64 ∨ w.extractLsb' 8 56 = 0x10000000000000#56 ∨ w = 0x2000000000000000#64 ∨
        w.extractLsb' 56 8 = 0x30#8 ∨ w.extractLsb' 56 8 = 0x31#8 ∨ w.extractLsb' 56 8 = 0x32#8 ∨
        w = 0x4000000000000000#64 ∨ w = 0x5000000000000000#64 ∨ w = 0x6000000000000000#64 ∨
        w = 0x7000000000000000#64))

/-- R89, R141: which words are illegal, and that an illegal word sets ILL, emits Illegal(w), changes nothing
else; ILL then stays until a reset. -/
def Obligations.IllegalWordsSetIllOnly : Prop :=
  (∀ w : OpWord, (∃ r, decodeOp w = .error r) ↔
    0x8#4 ≤ w.extractLsb' 60 4 ∨
    (w.extractLsb' 60 4 = 0x3#4 ∧
      (w.extractLsb' 56 4 = 0x3#4 ∨ w.getLsbD 59 = true ∨ w.getLsbD 58 = true)) ∨
    (w.extractLsb' 60 4 = 0x1#4 ∧ w.extractLsb' 8 52 ≠ 0#52) ∨
    ((w.extractLsb' 60 4 = 0x0#4 ∨ w.extractLsb' 60 4 = 0x2#4 ∨ w.extractLsb' 60 4 = 0x4#4 ∨
      w.extractLsb' 60 4 = 0x5#4 ∨ w.extractLsb' 60 4 = 0x6#4 ∨ w.extractLsb' 60 4 = 0x7#4) ∧
      w.extractLsb' 0 60 ≠ 0#60)) ∧
  (∀ s w r rest, s.port = .word w :: rest → decodeOp w = .error r → s.Settled →
    step s = .next { s with port := rest, ill := true, events := s.events ++ [.illegal w] }) ∧
  (∀ s t, step s = .next t → s.ill = true → t.ill = true ∨ nextResets s)

/-- The ten operations: decoding an operation's word gives it back, and a word that decodes is the word of what
it decodes to. -/
def Obligations.OperationWordsRoundTrip : Prop :=
  (∀ i : Instr, i.isOperation = true → ∃ w, encode i = [w] ∧ decodeOp w = .ok i) ∧
  (∀ w i, decodeOp w = .ok i → encode i = [w])

/-- The twelve command pseudo-instructions: the frame that the FCR builds for one, with its mode request, is
read back as that one; and what a frame is read as builds that frame, its checksum byte apart, which the table's
rows leave open (log 9). -/
def Obligations.CommandFramesRoundTrip : Prop :=
  (∀ (i : Instr) (a : StartArgs), i.isOperation = false → startArgsOf i = some a →
    decodeCommand a.mreq (commandFrame a) = .ok i) ∧
  (∀ m f i, decodeCommand m f = .ok i → i.isOperation = false ∧ ∃ a, startArgsOf i = some a ∧ a.mreq = m ∧
    commandFrame a = { f with checksum := checksumOf f })

/-- The two sensor rows: the frame of a well-formed one is read back as it, and every nine bytes are the frame of
what they are read as, which is well formed. -/
def Obligations.SensorFramesRoundTrip : Prop :=
  (∀ (i : Instr) (f : Frame), i.wellFormed = true → sensorFrameOf i = some f → decodeSensor f = i) ∧
  (∀ f : Frame, (decodeSensor f).wellFormed = true ∧ sensorFrameOf (decodeSensor f) = some f)

/-- R95: the 72-bit value of a frame and the frame of a 72-bit value are inverse to each other, and byte 0 lies
in bits 71:64, byte 8 in bits 7:0. -/
def Obligations.FrameBitsRoundTrip : Prop :=
  (∀ f : Frame, Frame.ofBits f.toBits = f) ∧ (∀ v : FrameBits, (Frame.ofBits v).toBits = v) ∧
  (∀ (f : Frame) (k : Nat), k < 9 → f.bytes[k]? = some (f.toBits.extractLsb' (64 - 8 * k) 8))

/-! ### The operations, rule by rule -/

/-- R140 -/
def Obligations.NopRule : Prop :=
  decodeOp 0x0000000000000000#64 = .ok .nop ∧
  ∀ s, s.Settled → exec .nop s = .next { s with events := s.events ++ [.done] }

/-- R133: a byte is stored where there is room, completes a waiting exchange as its ninth byte, and is dropped
where there is none. -/
def Obligations.RxbRule : Prop :=
  (∀ b : Byte, decodeOp (0x1#4 ++ 0#52 ++ b) = .ok (.rxb b)) ∧
  (∀ b s, s.q.length < Config.rxqDepth → (s.exst = .idle ∨ s.q.length < 8) →
    exec (.rxb b) s = .next { s with q := s.q ++ [b], events := s.events ++ [.done] }) ∧
  (∀ b s w, s.exst = .wait → s.q ++ [b] = w.bytes →
    exec (.rxb b) s = .next (complete w { s with q := s.q ++ [b], events := s.events ++ [.done] })) ∧
  (∀ b s, Config.rxqDepth ≤ s.q.length → s.Settled →
    exec (.rxb b) s = .next { s with ovr := true, events := s.events ++ [.overrun b] })

/-- R134 -/
def Obligations.PollRule : Prop :=
  decodeOp 0x2000000000000000#64 = .ok .poll ∧
  (∀ s, s.exst = .wait → s.q.length < 9 →
    exec .poll s = .next { s with events := s.events ++ [.pollBusy] }) ∧
  (∀ s, s.exst = .idle → s.mode = .manual →
    exec .poll s = .next { s with events := s.events ++ [.pollNotAuto] }) ∧
  (∀ s, s.exst = .idle → s.mode = .auto → s.q.length < 9 →
    exec .poll s = .next { s with events := s.events ++ [.pollNone] }) ∧
  (∀ s w rest, s.exst = .idle → s.mode = .auto → s.q = w.bytes ++ rest → validate w 0x62#8 0x33#8 = .ok →
    exec .poll s = .next { s with q := rest, lastAddr := cat16 w.addrHi w.addrLo,
                                  lastDist := cat16 w.data0 w.data1, lastValid := true,
                                  events := s.events ++ [sampleOf w] }) ∧
  (∀ s w rest, s.exst = .idle → s.mode = .auto → s.q = w.bytes ++ rest → validate w 0x62#8 0x33#8 ≠ .ok →
    exec .poll s = .next { s with q := s.q.tail, events := s.events ++ [.discard w.sync] })

/-- R135, for START, START.MAN and START.AUTO. -/
def Obligations.StartRule : Prop :=
  ∀ m sync cmd addr p0 p1 p2,
    decodeOp (0x3#4 ++ 0#2 ++ mreqBits m ++ sync ++ cmd ++ addr ++ p0 ++ p1 ++ p2) =
      .ok (startInstr m sync cmd addr p0 p1 p2) ∧
    (∀ s, s.exst = .wait → s.q.length < 9 →
      exec (startInstr m sync cmd addr p0 p1 p2) s = .next { s with events := s.events ++ [.rejected .busy] }) ∧
    (∀ s, s.exst = .idle → sync = 0x62#8 → cmd = 0x33#8 → s.mode = .auto →
      exec (startInstr m sync cmd addr p0 p1 p2) s =
        .next { s with outcome := .modeConflict, events := s.events ++ [.rejected .modeConflict] }) ∧
    (∀ s, s.exst = .idle → sync = 0x62#8 → cmd = 0x32#8 → 0xFFFE < (cat16 p0 p1).toNat →
      exec (startInstr m sync cmd addr p0 p1 p2) s =
        .next { s with outcome := .paramError, events := s.events ++ [.rejected .paramError] }) ∧
    (∀ s, s.exst = .idle → ¬ (sync = 0x62#8 ∧ cmd = 0x33#8 ∧ s.mode = .auto) →
      ¬ (sync = 0x62#8 ∧ cmd = 0x32#8 ∧ 0xFFFE < (cat16 p0 p1).toNat) → s.q.length < 9 →
      exec (startInstr m sync cmd addr p0 p1 p2) s =
        .next (opened s m sync cmd (buildFrame sync cmd addr p0 p1 p2))) ∧
    (∀ s w rest, s.exst = .idle → ¬ (sync = 0x62#8 ∧ cmd = 0x33#8 ∧ s.mode = .auto) →
      ¬ (sync = 0x62#8 ∧ cmd = 0x32#8 ∧ 0xFFFE < (cat16 p0 p1).toNat) → s.q = w.bytes ++ rest →
      exec (startInstr m sync cmd addr p0 p1 p2) s =
        .next (complete w (opened s m sync cmd (buildFrame sync cmd addr p0 p1 p2))))

/-- R136 -/
def Obligations.TimeoutRule : Prop :=
  decodeOp 0x4000000000000000#64 = .ok .timeout ∧
  (∀ s, s.exst = .wait → exec .timeout s =
    .next { s with outcome := .timeout, exst := .idle, events := s.events ++ [.exchDone .timeout] }) ∧
  (∀ s, s.exst = .idle → exec .timeout s = .next { s with events := s.events ++ [.ignored] })

/-- R137 -/
def Obligations.TxfailRule : Prop :=
  decodeOp 0x5000000000000000#64 = .ok .txfail ∧
  (∀ s, s.exst = .wait → exec .txfail s =
    .next { s with outcome := .transportError, exst := .idle,
                   events := s.events ++ [.exchDone .transportError] }) ∧
  (∀ s, s.exst = .idle → exec .txfail s = .next { s with events := s.events ++ [.ignored] })

/-- R138 -/
def Obligations.FlushRule : Prop :=
  decodeOp 0x6000000000000000#64 = .ok .flush ∧
  ∀ s, exec .flush s = .next { s with q := [], ovr := false, events := s.events ++ [.done] }

/-- R131, R132: when the settle phase acts, and what completing an exchange does. -/
def Obligations.SettleCompletesTheExchange : Prop :=
  (∀ s, (s.exst = .idle ∨ s.q.length < 9) → settle s = s) ∧
  ∀ s w rest, s.exst = .wait → s.q = w.bytes ++ rest →
    (validate w s.expSync s.expCmd = .csumBad →
      settle s = { s with q := rest, outcome := .checksumError, exst := .idle,
                          events := s.events ++ [.exchDone .checksumError] }) ∧
    (validate w s.expSync s.expCmd = .pairBad →
      settle s = { s with q := rest, outcome := .responseError, exst := .idle,
                          events := s.events ++ [.exchDone .responseError] }) ∧
    (validate w s.expSync s.expCmd = .ok → s.expKind = .config → w.status ≠ 0x66#8 →
      settle s = { s with q := rest, outcome := .deviceRejected, exst := .idle,
                          respAddr := cat16 w.addrHi w.addrLo, respData := cat16 w.data0 w.data1,
                          respStatus := w.status,
                          events := s.events ++ [.exchDoneResp .deviceRejected (cat16 w.addrHi w.addrLo)
                            (cat16 w.data0 w.data1) w.status] }) ∧
    (validate w s.expSync s.expCmd = .ok → s.expKind = .config → w.status = 0x66#8 →
      settle s = { s with q := rest, outcome := .success, exst := .idle,
                          respAddr := cat16 w.addrHi w.addrLo, respData := cat16 w.data0 w.data1,
                          respStatus := w.status, mode := modeAfter s,
                          events := s.events ++ [.exchDoneResp .success (cat16 w.addrHi w.addrLo)
                            (cat16 w.data0 w.data1) w.status] }) ∧
    (validate w s.expSync s.expCmd = .ok → s.expKind = .dist →
      settle s = { s with q := rest, outcome := .success, exst := .idle,
                          respAddr := cat16 w.addrHi w.addrLo, respData := cat16 w.data0 w.data1,
                          respStatus := w.status, mode := modeAfter s,
                          lastAddr := cat16 w.addrHi w.addrLo, lastDist := cat16 w.data0 w.data1,
                          lastValid := true,
                          events := s.events ++ [.exchDoneResp .success (cat16 w.addrHi w.addrLo)
                            (cat16 w.data0 w.data1) w.status] })

/-! ### The codec -/

/-- R102, R106: BuildFrame and Decode byte by byte. -/
def Obligations.BuildFrameAndDecodeLayout : Prop :=
  (∀ sync cmd addr p0 p1 p2, (buildFrame sync cmd addr p0 p1 p2).bytes =
    [sync, cmd, 0x09#8, addr.extractLsb' 8 8, addr.extractLsb' 0 8, p0, p1, p2,
      sync ^^^ cmd ^^^ 0x09#8 ^^^ addr.extractLsb' 8 8 ^^^ addr.extractLsb' 0 8 ^^^ p0 ^^^ p1 ^^^ p2]) ∧
  (∀ w : Frame, (fieldsOf w).addr.toNat = w.addrHi.toNat * 256 + w.addrLo.toNat ∧
    (fieldsOf w).data.toNat = w.data0.toNat * 256 + w.data1.toNat ∧ (fieldsOf w).status = w.status)

/-- R104: Validate's three results, the checksum compared first. -/
def Obligations.ValidateRule : Prop :=
  ∀ w es ec,
    (validate w es ec = .csumBad ↔ checksumOf w ≠ w.checksum) ∧
    (validate w es ec = .pairBad ↔ checksumOf w = w.checksum ∧ (w.sync ≠ es ∨ w.cmd ≠ ec)) ∧
    (validate w es ec = .ok ↔ checksumOf w = w.checksum ∧ w.sync = es ∧ w.cmd = ec)

/-- R107 -/
def Obligations.ClassifyRule : Prop :=
  ∀ kind status,
    classify kind .csumBad status = .checksumError ∧ classify kind .pairBad status = .responseError ∧
    classify .dist .ok status = .success ∧ classify .config .ok 0x66#8 = .success ∧
    (status ≠ 0x66#8 → classify .config .ok status = .deviceRejected)

/-- R100: the checksum is the exclusive-or of the first eight bytes, whatever their order; two equal bytes
cancel. -/
def Obligations.ChecksumIgnoresOrder : Prop :=
  (∀ f : Frame, checksumOf f =
    0x00#8 ^^^ f.sync ^^^ f.cmd ^^^ f.len ^^^ f.addrHi ^^^ f.addrLo ^^^ f.data0 ^^^ f.data1 ^^^ f.status) ∧
  (∀ bs cs : List Byte, bs.Perm cs → xorFold bs = xorFold cs) ∧
  (∀ (b : Byte) (bs cs ds : List Byte), xorFold (bs ++ b :: cs ++ b :: ds) = xorFold (bs ++ cs ++ ds))

/-- R101 -/
def Obligations.ChecksumIsSelfInverse : Prop :=
  ∀ f : Frame, f.checksum = checksumOf f ↔ xorFold f.bytes = 0x00#8

/-- R108 -/
def Obligations.BuiltFramesValidateAndDecode : Prop :=
  ∀ sync cmd addr p0 p1 p2,
    validate (buildFrame sync cmd addr p0 p1 p2) sync cmd = .ok ∧
    fieldsOf (buildFrame sync cmd addr p0 p1 p2) = ⟨addr, cat16 p0 p1, p2⟩

/-- R109: a set of bit flips in a structurally valid frame is detected exactly when some bit position is flipped
in an odd number of the nine bytes; a single flip always is. -/
def Obligations.BitFlipsDetectedExactlyWhenOdd : Prop :=
  (∀ (f e : Frame) es ec, validate f es ec = .ok →
    (validate (f.xor e) es ec = .csumBad ↔ oddFlips e.bytes)) ∧
  (∀ (f e : Frame) es ec (k j : Nat), validate f es ec = .ok → k < 9 → j < 8 →
    e.bytes = (List.replicate 9 0x00#8).set k (BitVec.twoPow 8 j) → validate (f.xor e) es ec = .csumBad)

/-- R110: an even number of flips in every bit position passes the checksum, and so does a reordering of bytes 0
to 7; the pair test still applies. Swapping bytes 5 and 6 exchanges the distance's bytes. -/
def Obligations.EvenFlipsAndReorderingsPass : Prop :=
  (∀ (f e : Frame) es ec es' ec', validate f es ec = .ok → ¬ oddFlips e.bytes →
    validate (f.xor e) es' ec' = if (f.xor e).sync = es' ∧ (f.xor e).cmd = ec' then .ok else .pairBad) ∧
  (∀ (f g : Frame) es ec es' ec', validate f es ec = .ok → (f.bytes.take 8).Perm (g.bytes.take 8) →
    g.checksum = f.checksum →
    validate g es' ec' = if g.sync = es' ∧ g.cmd = ec' then .ok else .pairBad) ∧
  (∀ (f : Frame), validate f 0x62#8 0x33#8 = .ok →
    validate { f with data0 := f.data1, data1 := f.data0 } 0x62#8 0x33#8 = .ok ∧
    (fieldsOf { f with data0 := f.data1, data1 := f.data0 }).data = cat16 f.data1 f.data0)

/-! ### The wire commands -/

/-- R171, R172, R174, R177 to R181: in IDLE with fewer than nine bytes queued, a configuration command without a
check of its own sends its frame and opens its exchange. -/
def Obligations.PlainCommandsSendTheirFrames : Prop :=
  ∀ s addr p0 p1 p2, s.exst = .idle → s.q.length < 9 →
    exec (.setBaud addr p0 p1 p2) s = .next (opened s .none 0x62#8 0x30#8 (buildFrame 0x62#8 0x30#8 addr p0 p1 p2)) ∧
    exec (.setUpInt addr p0 p1 p2) s = .next (opened s .none 0x62#8 0x35#8 (buildFrame 0x62#8 0x35#8 addr p0 p1 p2)) ∧
    exec (.setCommA addr p0 p1 p2) s = .next (opened s .none 0x61#8 0x30#8 (buildFrame 0x61#8 0x30#8 addr p0 p1 p2)) ∧
    exec (.setCommB addr p0 p1 p2) s = .next (opened s .none 0x62#8 0x31#8 (buildFrame 0x62#8 0x31#8 addr p0 p1 p2)) ∧
    exec (.setLed addr p0 p1 p2) s = .next (opened s .none 0x62#8 0x37#8 (buildFrame 0x62#8 0x37#8 addr p0 p1 p2)) ∧
    exec (.setRelay addr p0 p1 p2) s = .next (opened s .none 0x62#8 0x38#8 (buildFrame 0x62#8 0x38#8 addr p0 p1 p2)) ∧
    exec (.resetHard .byte5 addr) s =
      .next (opened s .none 0x62#8 0x39#8 (buildFrame 0x62#8 0x39#8 addr 0xFE#8 0x00#8 0x00#8)) ∧
    exec (.resetHard .byte6 addr) s =
      .next (opened s .none 0x62#8 0x39#8 (buildFrame 0x62#8 0x39#8 addr 0x00#8 0xFE#8 0x00#8)) ∧
    exec (.resetHard .byte7 addr) s =
      .next (opened s .none 0x62#8 0x39#8 (buildFrame 0x62#8 0x39#8 addr 0x00#8 0x00#8 0xFE#8)) ∧
    exec (.resetSoft .byte5 addr) s =
      .next (opened s .none 0x62#8 0x39#8 (buildFrame 0x62#8 0x39#8 addr 0xFD#8 0x00#8 0x00#8)) ∧
    exec (.resetSoft .byte6 addr) s =
      .next (opened s .none 0x62#8 0x39#8 (buildFrame 0x62#8 0x39#8 addr 0x00#8 0xFD#8 0x00#8)) ∧
    exec (.resetSoft .byte7 addr) s =
      .next (opened s .none 0x62#8 0x39#8 (buildFrame 0x62#8 0x39#8 addr 0x00#8 0x00#8 0xFD#8))

/-- R173: SETADDR sends the new address in bytes 5 and 6, and refuses the broadcast address. -/
def Obligations.SetAddressChecksTheNewAddress : Prop :=
  (∀ s addr new, s.exst = .idle → s.q.length < 9 → new ≠ 0xFFFF#16 →
    exec (.setAddr addr new) s = .next (opened s .none 0x62#8 0x32#8
      (buildFrame 0x62#8 0x32#8 addr (new.extractLsb' 8 8) (new.extractLsb' 0 8) 0x00#8))) ∧
  (∀ s addr, s.exst = .idle → exec (.setAddr addr 0xFFFF#16) s =
    .next { s with outcome := .paramError, events := s.events ++ [.rejected .paramError] })

/-- R175, R176: the two mode commands send the same frame and differ in the mode request alone. -/
def Obligations.SetUploadModeCarriesItsRequest : Prop :=
  ∀ s addr p0 p1 p2, s.exst = .idle → s.q.length < 9 →
    exec (.setUpModeAuto addr p0 p1 p2) s =
      .next (opened s .auto 0x62#8 0x34#8 (buildFrame 0x62#8 0x34#8 addr p0 p1 p2)) ∧
    exec (.setUpModeMan addr p0 p1 p2) s =
      .next (opened s .manual 0x62#8 0x34#8 (buildFrame 0x62#8 0x34#8 addr p0 p1 p2))

/-- R182: READDIST sends the distance query in MANUAL and is refused in AUTO. -/
def Obligations.ReadDistanceNeedsManualMode : Prop :=
  (∀ s addr, s.exst = .idle → s.mode = .manual → s.q.length < 9 →
    exec (.readDist addr) s = .next { s with
      exst := .wait, expSync := 0x62#8, expCmd := 0x33#8, expMreq := .none, expKind := .dist, outcome := .none,
      events := s.events ++
        [.tx (buildFrame 0x62#8 0x33#8 addr 0x00#8 0x00#8 0x00#8), .started] }) ∧
  (∀ s addr, s.exst = .idle → s.mode = .auto → exec (.readDist addr) s =
    .next { s with outcome := .modeConflict, events := s.events ++ [.rejected .modeConflict] })

/-- A command pseudo-instruction, or a START*, that finds an exchange outstanding is refused with BUSY and changes
nothing (R135, R170). -/
def Obligations.CommandsAreRefusedWhileBusy : Prop :=
  ∀ i a s, startArgsOf i = some a → s.exst = .wait → s.q.length < 9 →
    exec i s = .next { s with events := s.events ++ [.rejected .busy] }

/-- R170: a command pseudo-instruction does in every state what the START* operation that it expands to does. -/
def Obligations.CommandsRunTheirStart : Prop :=
  ∀ i a s, startArgsOf i = some a →
    exec i s = exec (startInstr a.mreq a.sync a.cmd a.addr a.p0 a.p1 a.p2) s

/-- R171, R172 and D30: where RESET_SEL_POS puts the selector changes the frame sent and nothing else. -/
def Obligations.ResetSelectorPositionOnlyMovesAByte : Prop :=
  ∀ (p p' : SelPos) addr s,
    (∃ t t', exec (.resetHard p addr) s = .next t ∧ exec (.resetHard p' addr) s = .next t' ∧
      { t with events := t'.events } = t' ∧ t.events.length = t'.events.length ∧
      ∀ k : Nat, t.events[k]? ≠ t'.events[k]? → ∃ f g, t.events[k]? = some (.tx f) ∧ t'.events[k]? = some (.tx g)) ∧
    (∃ t t', exec (.resetSoft p addr) s = .next t ∧ exec (.resetSoft p' addr) s = .next t' ∧
      { t with events := t'.events } = t' ∧ t.events.length = t'.events.length ∧
      ∀ k : Nat, t.events[k]? ≠ t'.events[k]? → ∃ f g, t.events[k]? = some (.tx f) ∧ t'.events[k]? = some (.tx g))

/-! ### The sensor's frames -/

/-- R183: a configuration response that reaches an empty queue completes the waiting exchange that expects its
pair, by its checksum and its status; with no exchange outstanding and room for it, it is queued. -/
def Obligations.ConfigResponseIsDelivered : Prop :=
  ∀ s sync cmd len addr data st cs,
    let f := respConfigFrame sync cmd len addr data st cs
    (s.exst = .wait → s.q = [] → checksumOf f ≠ cs →
      exec (.respConfig sync cmd len addr data st cs) s =
        .next { s with outcome := .checksumError, exst := .idle,
                       events := s.events ++ List.replicate 9 .done ++ [.exchDone .checksumError] }) ∧
    (s.exst = .wait → s.q = [] → s.expKind = .config → s.expSync = sync → s.expCmd = cmd → checksumOf f = cs →
      st = 0x66#8 → exec (.respConfig sync cmd len addr data st cs) s =
        .next { s with outcome := .success, exst := .idle, respAddr := addr, respData := data, respStatus := st,
                       mode := modeAfter s,
                       events := s.events ++ List.replicate 9 .done ++ [.exchDoneResp .success addr data st] }) ∧
    (s.exst = .wait → s.q = [] → s.expKind = .config → s.expSync = sync → s.expCmd = cmd → checksumOf f = cs →
      st ≠ 0x66#8 → exec (.respConfig sync cmd len addr data st cs) s =
        .next { s with outcome := .deviceRejected, exst := .idle, respAddr := addr, respData := data,
                       respStatus := st,
                       events := s.events ++ List.replicate 9 .done ++
                         [.exchDoneResp .deviceRejected addr data st] }) ∧
    (s.exst = .idle → s.q.length + 9 ≤ Config.rxqDepth →
      exec (.respConfig sync cmd len addr data st cs) s =
        .next { s with q := s.q ++ f.bytes, events := s.events ++ List.replicate 9 .done })

/-- R184, R235: a distance frame that reaches an empty queue is the sample of the distance exchange that waits for
it, a RESPONSE_ERROR for another exchange; with no exchange outstanding and room for it, it is queued. -/
def Obligations.DistanceFrameIsDelivered : Prop :=
  ∀ s len addr dist st cs,
    let f := frameDistFrame len addr dist st cs
    (s.exst = .wait → s.q = [] → s.expKind = .dist → s.expSync = 0x62#8 → s.expCmd = 0x33#8 → checksumOf f = cs →
      exec (.frameDist len addr dist st cs) s =
        .next { s with outcome := .success, exst := .idle, respAddr := addr, respData := dist, respStatus := st,
                       lastAddr := addr, lastDist := dist, lastValid := true,
                       events := s.events ++ List.replicate 9 .done ++ [.exchDoneResp .success addr dist st] }) ∧
    (s.exst = .wait → s.q = [] → ¬ (s.expSync = 0x62#8 ∧ s.expCmd = 0x33#8) → checksumOf f = cs →
      exec (.frameDist len addr dist st cs) s =
        .next { s with outcome := .responseError, exst := .idle,
                       events := s.events ++ List.replicate 9 .done ++ [.exchDone .responseError] }) ∧
    (s.exst = .wait → s.q = [] → checksumOf f ≠ cs →
      exec (.frameDist len addr dist st cs) s =
        .next { s with outcome := .checksumError, exst := .idle,
                       events := s.events ++ List.replicate 9 .done ++ [.exchDone .checksumError] }) ∧
    (s.exst = .idle → s.q.length + 9 ≤ Config.rxqDepth →
      exec (.frameDist len addr dist st cs) s =
        .next { s with q := s.q ++ f.bytes, events := s.events ++ List.replicate 9 .done })

/-- R92, R170: a line at the port does in one step what the operation words it expands to do one after another:
one START* word for a command, nine RXB words for a frame of the sensor (that a line is one step is the model's
choice, log 2). -/
def Obligations.LineRunsAsItsExpansion : Prop :=
  ∀ (i : Instr) (s : State) (rest : List PortItem), s.port = .line i :: rest →
    Sys2Proof.core.run (encode i).length { s with port := (encode i).map .word ++ rest } = step s

/-! ### Invariants -/

/-- The reset state meets the invariant of Safety.lean. -/
def Obligations.ResetMeetsTheInvariant : Prop := State.reset.Inv

/-- R32, and of R22, R23 and R27 the parts that Safety.lean names: every step keeps the invariant. -/
def Obligations.StepKeepsTheInvariant : Prop :=
  ∀ s t : State, s.Inv → step s = .next t → t.Inv

/-- R31: after every step that takes a transfer, from any state whatever, WAIT implies fewer than nine bytes. -/
def Obligations.SettledAfterEveryTransfer : Prop :=
  ∀ s t : State, s.port ≠ [] → step s = .next t → t.Settled

/-- R130, R200: no instruction and no step ends in a fault or a refusal, and a step takes its transfer off the
port. -/
def Obligations.NoStepStops : Prop :=
  (∀ i s, ∃ t, exec i s = .next t ∧ t.port = s.port) ∧
  (∀ s, ∃ t, step s = .next t ∧ t.port = s.port.tail)

/-! ### Who writes what -/

/-- R22: WAIT is entered by an accepted START* alone, and left by the end of the exchange or a reset alone. -/
def Obligations.ExchangeStateTransitions : Prop :=
  ∀ s t : State, step s = .next t →
    (s.exst = .idle → t.exst = .wait → ∃ i a, nextFetched s = some (.run i) ∧ startArgsOf i = some a ∧
      newEvents s t = [.tx (commandFrame a), .started]) ∧
    (s.exst = .wait → t.exst = .idle → nextResets s ∨ ∃ e, e ∈ newEvents s t ∧ e.isExchDone = true)

/-- R24: MODE changes only by a reset, to MANUAL, or by the success of a SetUploadMode exchange, to the mode it
requested, which the device acknowledged. -/
def Obligations.ModeChangesOnlyWhenConfirmed : Prop :=
  ∀ s t : State, s.Inv → step s = .next t → t.mode ≠ s.mode →
    (nextResets s ∧ t.mode = .manual) ∨
    (t.exst = .idle ∧ t.outcome = .success ∧ t.respStatus = 0x66#8 ∧ t.expSync = 0x62#8 ∧ t.expCmd = 0x34#8 ∧
      ((t.expMreq = .manual ∧ t.mode = .manual) ∨ (t.expMreq = .auto ∧ t.mode = .auto)))

/-- R25: the sample registers change only by a reset, by a POLL on a valid window, or by the success of a distance
exchange; LAST_VALID falls by a reset alone. -/
def Obligations.SampleChangesOnlyWhenMeasured : Prop :=
  ∀ s t : State, step s = .next t →
    ((t.lastAddr, t.lastDist, t.lastValid) ≠ (s.lastAddr, s.lastDist, s.lastValid) →
      nextResets s ∨
      (∃ w, nextFetched s = some (.run .poll) ∧ s.exst = .idle ∧ s.mode = .auto ∧ peek9 s.q = some w ∧
        validate w 0x62#8 0x33#8 = .ok ∧ t.lastAddr = cat16 w.addrHi w.addrLo ∧
        t.lastDist = cat16 w.data0 w.data1 ∧ t.lastValid = true) ∨
      (t.exst = .idle ∧ t.outcome = .success ∧ t.expKind = .dist ∧ t.lastAddr = t.respAddr ∧
        t.lastDist = t.respData ∧ t.lastValid = true)) ∧
    (s.lastValid = true → t.lastValid = true ∨ nextResets s)

/-- R26: the response registers change only by a reset or by a completion with SUCCESS or DEVICE_REJECTED. -/
def Obligations.ResponseChangesOnlyByCompletion : Prop :=
  ∀ s t : State, step s = .next t →
    (t.respAddr, t.respData, t.respStatus) ≠ (s.respAddr, s.respData, s.respStatus) →
      nextResets s ∨
      (t.exst = .idle ∧ (t.outcome = .success ∨ t.outcome = .deviceRejected) ∧
        .exchDoneResp t.outcome t.respAddr t.respData t.respStatus ∈ newEvents s t)

/-- R28, R29, R208: what sets and what clears the sticky flags, and that they change nothing else. -/
def Obligations.StickyFlagsAreSetClearedAndOnlyReported : Prop :=
  (∀ s b, Config.rxqDepth ≤ s.q.length → ∃ t, exec (.rxb b) s = .next t ∧ t.ovr = true) ∧
  (∀ s t, step s = .next t → ((nextFetched s = some (.run .flush) ∨ nextResets s) → t.ovr = false) ∧
    (¬ (nextFetched s = some (.run .flush) ∨ nextResets s) →
      (t.ovr = true ↔ s.ovr = true ∨ ∃ b, .overrun b ∈ newEvents s t))) ∧
  (∀ s t, step s = .next t → (nextResets s → t.ill = false) ∧
    (¬ nextResets s → (t.ill = true ↔ s.ill = true ∨ ∃ w, nextFetched s = some (.illegal w)))) ∧
  (∀ s t b c, step s = .next t → ∃ t', step { s with ovr := b, ill := c } = .next t' ∧
    { t' with ovr := t.ovr, ill := t.ill } = t)

/-- R42, R43, R45: the events of one operation, in their order: the frame of an accepted START*, the one response
event that the operation's rule names, the end of an exchange from the settle phase. -/
def Obligations.EventsOfAnOperation : Prop :=
  ∀ s w i rest, s.port = .word w :: rest → decodeOp w = .ok i →
    ∃ t tx r fin, step s = .next t ∧ t.events = s.events ++ (tx ++ [r] ++ fin) ∧ responds i r = true ∧
      ((tx = [] ∧ r ≠ .started) ∨ ∃ a, startArgsOf i = some a ∧ tx = [.tx (commandFrame a)] ∧ r = .started) ∧
      (fin = [] ∨ ∃ e, fin = [e] ∧ e.isExchDone = true)

/-- R30, R65: an operation word adds at most the byte of an RXB at the tail and removes 0, 1, 9 or all bytes at the
head, one only by POLL; what stays keeps its order. -/
def Obligations.QueueIsFirstInFirstOut : Prop :=
  ∀ s w rest t, s.port = .word w :: rest → step s = .next t →
    ∃ added k, t.q = (s.q ++ added).drop k ∧
      (added = [] ∨ ∃ b, decodeOp w = .ok (.rxb b) ∧ added = [b]) ∧
      (k = 0 ∨ (k = 1 ∧ decodeOp w = .ok .poll) ∨ (k = 9 ∧ 9 ≤ (s.q ++ added).length) ∨
        (k = s.q.length ∧ added = [] ∧ (decodeOp w = .ok .flush ∨ decodeOp w = .ok .brst)))

/-! ### The resynchronizer -/

/-- R143: a POLL that finds nine bytes removes at least one, and of any number of POLLs in a row at most
`len(q) - 8` emit Sample or Discard. -/
def Obligations.PollMakesProgress : Prop :=
  (∀ s, s.exst = .idle → s.mode = .auto → 9 ≤ s.q.length →
    ∃ t, exec .poll s = .next t ∧ t.q.length < s.q.length) ∧
  (∀ (n : Nat) (s : State) (later : List PortItem), s.exst = .idle → s.mode = .auto →
    s.port = List.replicate n (.word pollWord) ++ later →
    ∃ (t : State) (fresh : List Event), Sys2Proof.core.run n s = .next t ∧ t.events = s.events ++ fresh ∧ fresh.length = n ∧
      fresh.countP (fun e => e != .pollNone) ≤ s.q.length - 8)

/-- R144: from a queue whose first valid window stands after `pre`, as many POLLs as `pre` has bytes discard them
one by one, in order, and the next POLL samples that window. -/
def Obligations.MinimalDiscard : Prop :=
  ∀ (s : State) (pre rest : List Byte) (w : Frame) (later : List PortItem),
    s.exst = .idle → s.mode = .auto → s.q = pre ++ w.bytes ++ rest → validate w 0x62#8 0x33#8 = .ok →
    (∀ k, k < pre.length → validWindow (s.q.drop k) = false) →
    s.port = List.replicate (pre.length + 1) (.word pollWord) ++ later →
    Sys2Proof.core.run (pre.length + 1) s =
      .next { s with q := rest, port := later, lastAddr := cat16 w.addrHi w.addrLo,
                     lastDist := cat16 w.data0 w.data1, lastValid := true,
                     events := s.events ++ pre.map .discard ++ [sampleOf w] }

/-- R145: over a corrupted frame `c` between two valid ones, the first valid window after the first frame is at an
offset of 1 to 9; the POLLs sample the first frame, discard exactly the bytes before that window and sample it.
With no valid window inside `c` the offset is 9 and the window is the second frame. -/
def Obligations.RecoveryFromOneCorruptedFrame : Prop :=
  ∀ (s : State) (v1 c v2 : Frame) (rest : List Byte) (later : List PortItem),
    s.exst = .idle → s.mode = .auto → s.q = v1.bytes ++ (c.bytes ++ (v2.bytes ++ rest)) →
    validate v1 0x62#8 0x33#8 = .ok → validate v2 0x62#8 0x33#8 = .ok → validate c 0x62#8 0x33#8 ≠ .ok →
    s.port = List.replicate 11 (.word pollWord) ++ later →
    ∃ (k : Nat) (w : Frame) (t : State), 1 ≤ k ∧ k ≤ 9 ∧
      peek9 ((c.bytes ++ (v2.bytes ++ rest)).drop k) = some w ∧ validate w 0x62#8 0x33#8 = .ok ∧
      (∀ j, j < k → validWindow ((c.bytes ++ (v2.bytes ++ rest)).drop j) = false) ∧
      Sys2Proof.core.run (k + 2) s = .next t ∧
      t.events = s.events ++ [sampleOf v1] ++ (c.bytes.take k).map .discard ++ [sampleOf w] ∧
      ((∀ j, 1 ≤ j → j ≤ 8 → validWindow ((c.bytes ++ (v2.bytes ++ rest)).drop j) = false) → k = 9 ∧ w = v2)

/-- R146: over any bytes `g` between two valid frames, the POLLs sample the first frame, discard at most as many
bytes as `g` has, and sample the next valid window; where no window that starts in `g` is valid they discard
exactly `g` and that window is the second frame. A frame that lost a byte is a `g` of eight bytes. -/
def Obligations.RecoveryFromInsertedOrDroppedBytes : Prop :=
  ∀ (s : State) (v1 v2 : Frame) (g rest : List Byte) (later : List PortItem),
    s.exst = .idle → s.mode = .auto → s.q = v1.bytes ++ (g ++ (v2.bytes ++ rest)) →
    validate v1 0x62#8 0x33#8 = .ok → validate v2 0x62#8 0x33#8 = .ok →
    s.port = List.replicate (g.length + 2) (.word pollWord) ++ later →
    ∃ (k : Nat) (w : Frame) (t : State), k ≤ g.length ∧
      peek9 ((g ++ (v2.bytes ++ rest)).drop k) = some w ∧ validate w 0x62#8 0x33#8 = .ok ∧
      (∀ j, j < k → validWindow ((g ++ (v2.bytes ++ rest)).drop j) = false) ∧
      Sys2Proof.core.run (k + 2) s = .next t ∧
      t.events = s.events ++ [sampleOf v1] ++ (g.take k).map .discard ++ [sampleOf w] ∧
      ((∀ j, j < g.length → validWindow ((g ++ (v2.bytes ++ rest)).drop j) = false) → k = g.length ∧ w = v2)

/-- R147: a window that happens to be valid at an offset `k` of the nine bytes before a frame is sampled with
whatever it spells, and the next window then starts `k` bytes into that frame. -/
def Obligations.FalseLockTakesTheHeadOfTheNextFrame : Prop :=
  ∀ (s : State) (c v w : Frame) (rest : List Byte) (later : List PortItem) (k : Nat),
    s.exst = .idle → s.mode = .auto → s.q = c.bytes ++ (v.bytes ++ rest) → k < 9 →
    peek9 (s.q.drop k) = some w → w.sync = 0x62#8 → w.cmd = 0x33#8 → checksumOf w = w.checksum →
    (∀ j, j < k → validWindow (s.q.drop j) = false) →
    s.port = List.replicate (k + 1) (.word pollWord) ++ later →
    ∃ t : State, Sys2Proof.core.run (k + 1) s = .next t ∧
      t.events = s.events ++ (c.bytes.take k).map .discard ++ [sampleOf w] ∧
      t.q = v.bytes.drop k ++ rest

/-! ### Exchanges over time -/

/-- R211: an exchange that gets fewer than nine bytes and neither a report nor a BRST stays in WAIT. -/
def Obligations.WaitsWithoutAReport : Prop :=
  ∀ (ws : List OpWord) (s : State) (later : List PortItem), s.exst = .wait →
    (∀ w ∈ ws, decodeOp w ≠ .ok .timeout ∧ decodeOp w ≠ .ok .txfail ∧ decodeOp w ≠ .ok .brst) →
    s.q.length + ws.countP (fun w => opField w == 0x1#4) < 9 →
    s.port = ws.map .word ++ later →
    ∃ t : State, Sys2Proof.core.run ws.length s = .next t ∧ t.exst = .wait ∧ t.port = later

/-- R205: the ninth byte against TIMEOUT. Whichever comes first decides; the later is ignored, or queued. -/
def Obligations.NinthByteRacesTimeout : Prop :=
  ∀ (s : State) (b : Byte) (w : Frame), s.exst = .wait → s.q ++ [b] = w.bytes →
    Sys2Proof.core.run 2 { s with port := [.word (rxbWord b), .word 0x4000000000000000#64] } =
      .next { complete w { s with q := s.q ++ [b], port := [], events := s.events ++ [.done] } with
              events := (complete w { s with q := s.q ++ [b], port := [],
                                             events := s.events ++ [.done] }).events ++ [.ignored] } ∧
    Sys2Proof.core.run 2 { s with port := [.word 0x4000000000000000#64, .word (rxbWord b)] } =
      .next { s with q := s.q ++ [b], port := [], exst := .idle, outcome := .timeout,
                     events := s.events ++ [.exchDone .timeout, .done] }

/-! ### The register read port -/

/-- R34 to R39: the words of the six registers, field by field, and that each reads 0 after reset. -/
def Obligations.RegisterMap : Prop :=
  ∀ s : State, s.q.length ≤ Config.rxqDepth →
    ((readReg s 0#8).extractLsb' 0 1 = exstBit s.exst ∧ (readReg s 0#8).extractLsb' 1 1 = modeBit s.mode ∧
      (readReg s 0#8).extractLsb' 2 1 = BitVec.ofBool s.lastValid ∧
      (readReg s 0#8).extractLsb' 3 1 = BitVec.ofBool s.ovr ∧ (readReg s 0#8).extractLsb' 4 1 = BitVec.ofBool s.ill ∧
      (readReg s 0#8).extractLsb' 5 3 = 0#3 ∧ (readReg s 0#8).extractLsb' 8 4 = s.outcome.code ∧
      (readReg s 0#8).extractLsb' 12 20 = 0#20) ∧
    ((readReg s 1#8).extractLsb' 16 16 = s.lastAddr ∧ (readReg s 1#8).extractLsb' 0 16 = s.lastDist) ∧
    ((readReg s 2#8).extractLsb' 16 16 = s.respAddr ∧ (readReg s 2#8).extractLsb' 0 16 = s.respData) ∧
    ((readReg s 3#8).extractLsb' 0 8 = s.respStatus ∧ (readReg s 3#8).extractLsb' 8 24 = 0#24) ∧
    ((readReg s 4#8).extractLsb' 0 8 = s.expSync ∧ (readReg s 4#8).extractLsb' 8 8 = s.expCmd ∧
      (readReg s 4#8).extractLsb' 16 2 = mreqBits s.expMreq ∧ (readReg s 4#8).extractLsb' 18 1 = kindBit s.expKind ∧
      (readReg s 4#8).extractLsb' 19 13 = 0#13) ∧
    (readReg s 5#8).toNat = s.q.length ∧
    (∀ idx : BitVec 8, 6 ≤ idx.toNat → readReg s idx = 0#32) ∧
    (∀ idx : BitVec 8, readReg State.reset idx = 0#32)

/-- R201: the numbers of the outcome codes. -/
def Obligations.OutcomeCodesAreNumbered : Prop :=
  OutcomeCode.code .none = 0#4 ∧ OutcomeCode.code .success = 1#4 ∧ OutcomeCode.code .timeout = 2#4 ∧
  OutcomeCode.code .checksumError = 3#4 ∧ OutcomeCode.code .responseError = 4#4 ∧
  OutcomeCode.code .deviceRejected = 5#4 ∧ OutcomeCode.code .transportError = 6#4 ∧
  OutcomeCode.code .paramError = 7#4 ∧ OutcomeCode.code .modeConflict = 8#4 ∧ OutcomeCode.code .busy = 9#4

/-- R41: a read of LAST without a sample, or of RESP or RESPST without a response, has no value; every other read
returns the register's word. -/
def Obligations.ReadsWithoutAValueFault : Prop :=
  ∀ s : State,
    (s.lastValid = false → readRegChecked s 1#8 = .error .noSample) ∧
    (s.lastValid = true → readRegChecked s 1#8 = .ok (readReg s 1#8)) ∧
    (∀ idx, (idx = 2#8 ∨ idx = 3#8) →
      ((s.exst = .idle ∧ (s.outcome.code = 1#4 ∨ s.outcome.code = 5#4) → readRegChecked s idx = .ok (readReg s idx)) ∧
       (¬ (s.exst = .idle ∧ (s.outcome.code = 1#4 ∨ s.outcome.code = 5#4)) →
         readRegChecked s idx = .error .noResponse))) ∧
    (∀ idx : BitVec 8, idx ≠ 1#8 → idx ≠ 2#8 → idx ≠ 3#8 → readRegChecked s idx = .ok (readReg s idx))
end

