-- ==== Sys2Proof/Laws/Codec.lean ====
section
/-! SUPPORT. The codec's small lemmas: byte order, the exclusive-or fold, the window, Validate, BuildFrame,
Classify. -/

namespace Sys2Proof.Machine

/-! ### Byte order -/

theorem getLsbD_cat16 (a b : Byte) (i : Nat) :
    (cat16 a b).getLsbD i = if i < 8 then b.getLsbD i else a.getLsbD (i - 8) := BitVec.getLsbD_append

@[simp] theorem cat16_hi8_lo8 (v : Half) : cat16 (hi8 v) (lo8 v) = v := by
  apply BitVec.eq_of_getLsbD_eq
  intro i hi
  rw [getLsbD_cat16]
  split <;> rename_i h
  · simp [lo8, h]
  · rw [hi8, BitVec.getLsbD_extractLsb', show 8 + (i - 8) = i by omega]
    simp [show i - 8 < 8 by omega]

@[simp] theorem hi8_cat16 (a b : Byte) : hi8 (cat16 a b) = a := by
  apply BitVec.eq_of_getLsbD_eq
  intro i hi
  rw [hi8, BitVec.getLsbD_extractLsb', getLsbD_cat16]
  simp [hi]

@[simp] theorem lo8_cat16 (a b : Byte) : lo8 (cat16 a b) = b := by
  apply BitVec.eq_of_getLsbD_eq
  intro i hi
  rw [lo8, BitVec.getLsbD_extractLsb', getLsbD_cat16]
  simp [hi]

/-! ### The exclusive-or fold -/

@[simp] theorem xorFold_nil : xorFold [] = 0x00#8 := rfl

theorem foldl_xor_start (bs : List Byte) (x : Byte) : bs.foldl (· ^^^ ·) x = x ^^^ xorFold bs := by
  induction bs generalizing x with
  | nil => simp
  | cons b bs ih =>
    rw [List.foldl_cons, ih, show xorFold (b :: bs) = bs.foldl (· ^^^ ·) (0x00#8 ^^^ b) from rfl, ih,
      BitVec.zero_xor, BitVec.xor_assoc]

@[simp] theorem xorFold_cons (b : Byte) (bs : List Byte) : xorFold (b :: bs) = b ^^^ xorFold bs := by
  rw [show xorFold (b :: bs) = bs.foldl (· ^^^ ·) (0x00#8 ^^^ b) from rfl, foldl_xor_start,
    BitVec.zero_xor]

@[simp] theorem xorFold_append (bs cs : List Byte) : xorFold (bs ++ cs) = xorFold bs ^^^ xorFold cs := by
  induction bs with
  | nil => simp
  | cons b bs ih => simp [ih, BitVec.xor_assoc]

/-- The checksum as the eight bytes' exclusive-or, written out. -/
theorem checksumOf_eq (f : Frame) :
    checksumOf f = f.sync ^^^ f.cmd ^^^ f.len ^^^ f.addrHi ^^^ f.addrLo ^^^ f.data0 ^^^ f.data1 ^^^ f.status := by
  simp [checksumOf, Frame.bytes, BitVec.xor_assoc]

/-- The checksum byte itself does not enter the checksum. -/
@[simp] theorem checksumOf_withChecksum (f : Frame) (c : Byte) :
    checksumOf { f with checksum := c } = checksumOf f := rfl

/-! ### The window -/

@[simp] theorem bytes_length (w : Frame) : w.bytes.length = 9 := rfl

@[simp] theorem peek9_bytes_append (w : Frame) (rest : List Byte) : peek9 (w.bytes ++ rest) = some w := rfl

@[simp] theorem peek9_bytes (w : Frame) : peek9 w.bytes = some w := rfl

@[simp] theorem drop_bytes_append (w : Frame) (rest : List Byte) : (w.bytes ++ rest).drop 9 = rest := rfl

/-- A window is found exactly at the head of a queue that begins with its nine bytes. -/
theorem peek9_eq_some {bs : List Byte} {w : Frame} : peek9 bs = some w ↔ bs = w.bytes ++ bs.drop 9 := by
  constructor
  · intro h
    unfold peek9 at h
    split at h
    · cases h; rfl
    · cases h
  · intro h
    rw [h]; rfl

/-- No window is found exactly when fewer than nine bytes are queued. -/
theorem peek9_eq_none {bs : List Byte} : peek9 bs = none ↔ bs.length < 9 := by
  unfold peek9
  split
  · simp
  · rename_i h
    simp only [true_iff]
    by_contra hl
    match bs, h with
    | b0 :: b1 :: b2 :: b3 :: b4 :: b5 :: b6 :: b7 :: b8 :: rest, h =>
      exact h b0 b1 b2 b3 b4 b5 b6 b7 b8 rest rfl
    | [], _ | [_], _ | [_, _], _ | [_, _, _], _ | [_, _, _, _], _ | [_, _, _, _, _], _
    | [_, _, _, _, _, _], _ | [_, _, _, _, _, _, _], _ | [_, _, _, _, _, _, _, _], _ => simp at hl

/-- A queue of nine bytes or more has a window. -/
theorem exists_window {bs : List Byte} (h : 9 ≤ bs.length) : ∃ w : Frame, bs = w.bytes ++ bs.drop 9 := by
  cases hp : peek9 bs with
  | none => exact absurd (peek9_eq_none.1 hp) (by omega)
  | some w => exact ⟨w, peek9_eq_some.1 hp⟩

/-! ### Validate and Classify -/

theorem validate_csumBad {w : Frame} {es ec : Byte} :
    validate w es ec = .csumBad ↔ checksumOf w ≠ w.checksum := by
  unfold validate
  split <;> rename_i h
  · simp [h]
  · split <;> simp_all

theorem validate_pairBad {w : Frame} {es ec : Byte} :
    validate w es ec = .pairBad ↔ checksumOf w = w.checksum ∧ (w.sync ≠ es ∨ w.cmd ≠ ec) := by
  unfold validate
  split <;> rename_i h
  · simp [h]
  · split <;> simp_all

theorem validate_ok {w : Frame} {es ec : Byte} :
    validate w es ec = .ok ↔ checksumOf w = w.checksum ∧ w.sync = es ∧ w.cmd = ec := by
  unfold validate
  split <;> rename_i h
  · simp [h]
  · split <;> rename_i h'
    · simp only [reduceCtorEq, false_iff]
      rintro ⟨-, h1, h2⟩
      exact h'.elim (· h1) (· h2)
    · simp_all

@[simp] theorem classify_csumBad (k : Kind) (st : Byte) : classify k .csumBad st = .checksumError := rfl
@[simp] theorem classify_pairBad (k : Kind) (st : Byte) : classify k .pairBad st = .responseError := rfl
@[simp] theorem classify_dist (st : Byte) : classify .dist .ok st = .success := rfl
@[simp] theorem classify_ack : classify .config .ok 0x66#8 = .success := rfl
theorem classify_config (st : Byte) :
    classify .config .ok st = if st = Config.ack then .success else .deviceRejected := rfl

/-- A completion never has the outcome NONE, TIMEOUT, TRANSPORT_ERROR or one of the refusals'. -/
theorem classify_cases (k : Kind) (v : Verdict) (st : Byte) :
    classify k v st = .success ∨ classify k v st = .checksumError ∨ classify k v st = .responseError ∨
      classify k v st = .deviceRejected := by
  by_cases h : st = Config.ack <;> cases v <;> cases k <;> simp [classify, h]

/-- The kind is DIST exactly for the distance pair. -/
theorem kindOf_dist {sync cmd : Byte} : kindOf sync cmd = .dist ↔ sync = 0x62#8 ∧ cmd = 0x33#8 := by
  unfold kindOf
  split <;> simp_all

/-! ### BuildFrame -/

variable (sync cmd : Byte) (addr : Half) (p0 p1 p2 : Byte)

@[simp] theorem buildFrame_sync : (buildFrame sync cmd addr p0 p1 p2).sync = sync := rfl
@[simp] theorem buildFrame_cmd : (buildFrame sync cmd addr p0 p1 p2).cmd = cmd := rfl
@[simp] theorem buildFrame_len : (buildFrame sync cmd addr p0 p1 p2).len = 0x09#8 := rfl
@[simp] theorem buildFrame_addrHi : (buildFrame sync cmd addr p0 p1 p2).addrHi = hi8 addr := rfl
@[simp] theorem buildFrame_addrLo : (buildFrame sync cmd addr p0 p1 p2).addrLo = lo8 addr := rfl
@[simp] theorem buildFrame_data0 : (buildFrame sync cmd addr p0 p1 p2).data0 = p0 := rfl
@[simp] theorem buildFrame_data1 : (buildFrame sync cmd addr p0 p1 p2).data1 = p1 := rfl
@[simp] theorem buildFrame_status : (buildFrame sync cmd addr p0 p1 p2).status = p2 := rfl

/-- A built frame's checksum byte is the checksum of its first eight bytes. -/
@[simp] theorem checksumOf_buildFrame :
    checksumOf (buildFrame sync cmd addr p0 p1 p2) = (buildFrame sync cmd addr p0 p1 p2).checksum := rfl

end Sys2Proof.Machine
end

