-- ==== Sys2Proof/Laws/Decode.lean ====
section
/-! SUPPORT. The fields of the words that the encoder writes, read back one at a time, and a word put
together again from its fields. -/

namespace Sys2Proof

open Machine

/-! ### The fields of a START* word -/

@[simp] theorem topByte_startWord (a : StartArgs) : topByte (startWord a) = 0x3#4 ++ 0#2 ++ mreqBits a.mreq := by
  apply BitVec.eq_of_getLsbD_eq
  intro i hi
  simp only [topByte, startWord, BitVec.getLsbD_extractLsb']
  iterate 6 rw [BitVec.getLsbD_append, if_neg (by omega)]
  rw [show 56 + i - 8 - 8 - 8 - 16 - 8 - 8 = i by omega]
  simp [hi]

@[simp] theorem syncField_startWord (a : StartArgs) : syncField (startWord a) = a.sync := by
  apply BitVec.eq_of_getLsbD_eq
  intro i hi
  simp only [syncField, startWord, BitVec.getLsbD_extractLsb']
  iterate 5 rw [BitVec.getLsbD_append, if_neg (by omega)]
  rw [BitVec.getLsbD_append, if_pos (by omega), show 48 + i - 8 - 8 - 8 - 16 - 8 = i by omega]
  simp [hi]

@[simp] theorem cmdField_startWord (a : StartArgs) : cmdField (startWord a) = a.cmd := by
  apply BitVec.eq_of_getLsbD_eq
  intro i hi
  simp only [cmdField, startWord, BitVec.getLsbD_extractLsb']
  iterate 4 rw [BitVec.getLsbD_append, if_neg (by omega)]
  rw [BitVec.getLsbD_append, if_pos (by omega), show 40 + i - 8 - 8 - 8 - 16 = i by omega]
  simp [hi]

@[simp] theorem addrField_startWord (a : StartArgs) : addrField (startWord a) = a.addr := by
  apply BitVec.eq_of_getLsbD_eq
  intro i hi
  simp only [addrField, startWord, BitVec.getLsbD_extractLsb']
  iterate 3 rw [BitVec.getLsbD_append, if_neg (by omega)]
  rw [BitVec.getLsbD_append, if_pos (by omega), show 24 + i - 8 - 8 - 8 = i by omega]
  simp [hi]

@[simp] theorem p0Field_startWord (a : StartArgs) : p0Field (startWord a) = a.p0 := by
  apply BitVec.eq_of_getLsbD_eq
  intro i hi
  simp only [p0Field, startWord, BitVec.getLsbD_extractLsb']
  iterate 2 rw [BitVec.getLsbD_append, if_neg (by omega)]
  rw [BitVec.getLsbD_append, if_pos (by omega), show 16 + i - 8 - 8 = i by omega]
  simp [hi]

@[simp] theorem p1Field_startWord (a : StartArgs) : p1Field (startWord a) = a.p1 := by
  apply BitVec.eq_of_getLsbD_eq
  intro i hi
  simp only [p1Field, startWord, BitVec.getLsbD_extractLsb']
  iterate 1 rw [BitVec.getLsbD_append, if_neg (by omega)]
  rw [BitVec.getLsbD_append, if_pos (by omega), show 8 + i - 8 = i by omega]
  simp [hi]

@[simp] theorem p2Field_startWord (a : StartArgs) : p2Field (startWord a) = a.p2 := by
  apply BitVec.eq_of_getLsbD_eq
  intro i hi
  simp only [p2Field, startWord, BitVec.getLsbD_extractLsb']
  rw [BitVec.getLsbD_append, if_pos (by omega), show 0 + i = i by omega]
  simp [hi]

/-! ### The fields of an RXB word -/

@[simp] theorem p2Field_rxbWord (b : Byte) : p2Field (rxbWord b) = b := by
  apply BitVec.eq_of_getLsbD_eq
  intro i hi
  simp only [p2Field, rxbWord, BitVec.getLsbD_extractLsb']
  rw [BitVec.getLsbD_append, if_pos (by omega), show 0 + i = i by omega]
  simp [hi]

theorem upper_rxbWord (b : Byte) : (rxbWord b).extractLsb' 8 56 = 0x10000000000000#56 := by
  have h : (0x1#4 ++ 0#52 : BitVec 56) = 0x10000000000000#56 := by decide
  rw [← h]
  apply BitVec.eq_of_getLsbD_eq
  intro i hi
  simp only [rxbWord, BitVec.getLsbD_extractLsb']
  rw [BitVec.getLsbD_append (x := (0x1#4 ++ 0#52 : BitVec 56)), if_neg (by omega), show 8 + i - 8 = i by omega]
  simp [hi]

/-! ### A word from its fields -/

/-- A word is its top byte and the six fields of format S. -/
theorem word_of_fields (w : OpWord) :
    w = topByte w ++ syncField w ++ cmdField w ++ addrField w ++ p0Field w ++ p1Field w ++ p2Field w := by
  apply BitVec.eq_of_getLsbD_eq
  intro i hi
  iterate 6 rw [BitVec.getLsbD_append]
  simp only [topByte, syncField, cmdField, addrField, p0Field, p1Field, p2Field, BitVec.getLsbD_extractLsb']
  repeat' split
  all_goals (rw [decide_eq_true (by omega), Bool.true_and]; congr 1; omega)

/-- A word is its upper 56 bits and its low byte. -/
theorem word_of_upper (w : OpWord) : w = (w.extractLsb' 8 56) ++ p2Field w := by
  apply BitVec.eq_of_getLsbD_eq
  intro i hi
  rw [BitVec.getLsbD_append]
  simp only [p2Field, BitVec.getLsbD_extractLsb']
  split
  · rw [decide_eq_true (by omega), Bool.true_and]; congr 1; omega
  · rw [decide_eq_true (by omega), Bool.true_and]; congr 1; omega

/-! ### Frames -/

@[simp] theorem commandFrame_eq (a : StartArgs) :
    commandFrame a = buildFrame a.sync a.cmd a.addr a.p0 a.p1 a.p2 := rfl

end Sys2Proof
end

