-- ==== Sys2Proof/Laws/State.lean ====
section
/-! SUPPORT. One lemma per field per named update of the state, so that no later proof unfolds an update. -/

namespace Sys2Proof.Machine

variable (s : State)

@[simp] theorem emit_exst (e : Event) : (emit e s).exst = s.exst := rfl
@[simp] theorem emit_expSync (e : Event) : (emit e s).expSync = s.expSync := rfl
@[simp] theorem emit_expCmd (e : Event) : (emit e s).expCmd = s.expCmd := rfl
@[simp] theorem emit_expMreq (e : Event) : (emit e s).expMreq = s.expMreq := rfl
@[simp] theorem emit_expKind (e : Event) : (emit e s).expKind = s.expKind := rfl
@[simp] theorem emit_mode (e : Event) : (emit e s).mode = s.mode := rfl
@[simp] theorem emit_lastDist (e : Event) : (emit e s).lastDist = s.lastDist := rfl
@[simp] theorem emit_lastAddr (e : Event) : (emit e s).lastAddr = s.lastAddr := rfl
@[simp] theorem emit_lastValid (e : Event) : (emit e s).lastValid = s.lastValid := rfl
@[simp] theorem emit_respAddr (e : Event) : (emit e s).respAddr = s.respAddr := rfl
@[simp] theorem emit_respData (e : Event) : (emit e s).respData = s.respData := rfl
@[simp] theorem emit_respStatus (e : Event) : (emit e s).respStatus = s.respStatus := rfl
@[simp] theorem emit_outcome (e : Event) : (emit e s).outcome = s.outcome := rfl
@[simp] theorem emit_ovr (e : Event) : (emit e s).ovr = s.ovr := rfl
@[simp] theorem emit_ill (e : Event) : (emit e s).ill = s.ill := rfl
@[simp] theorem emit_q (e : Event) : (emit e s).q = s.q := rfl
@[simp] theorem emit_events (e : Event) : (emit e s).events = s.events ++ [e] := rfl
@[simp] theorem emit_port (e : Event) : (emit e s).port = s.port := rfl

@[simp] theorem setQueue_exst (r : List Byte) : (setQueue r s).exst = s.exst := rfl
@[simp] theorem setQueue_expSync (r : List Byte) : (setQueue r s).expSync = s.expSync := rfl
@[simp] theorem setQueue_expCmd (r : List Byte) : (setQueue r s).expCmd = s.expCmd := rfl
@[simp] theorem setQueue_expMreq (r : List Byte) : (setQueue r s).expMreq = s.expMreq := rfl
@[simp] theorem setQueue_expKind (r : List Byte) : (setQueue r s).expKind = s.expKind := rfl
@[simp] theorem setQueue_mode (r : List Byte) : (setQueue r s).mode = s.mode := rfl
@[simp] theorem setQueue_lastDist (r : List Byte) : (setQueue r s).lastDist = s.lastDist := rfl
@[simp] theorem setQueue_lastAddr (r : List Byte) : (setQueue r s).lastAddr = s.lastAddr := rfl
@[simp] theorem setQueue_lastValid (r : List Byte) : (setQueue r s).lastValid = s.lastValid := rfl
@[simp] theorem setQueue_respAddr (r : List Byte) : (setQueue r s).respAddr = s.respAddr := rfl
@[simp] theorem setQueue_respData (r : List Byte) : (setQueue r s).respData = s.respData := rfl
@[simp] theorem setQueue_respStatus (r : List Byte) : (setQueue r s).respStatus = s.respStatus := rfl
@[simp] theorem setQueue_outcome (r : List Byte) : (setQueue r s).outcome = s.outcome := rfl
@[simp] theorem setQueue_ovr (r : List Byte) : (setQueue r s).ovr = s.ovr := rfl
@[simp] theorem setQueue_ill (r : List Byte) : (setQueue r s).ill = s.ill := rfl
@[simp] theorem setQueue_q (r : List Byte) : (setQueue r s).q = r := rfl
@[simp] theorem setQueue_events (r : List Byte) : (setQueue r s).events = s.events := rfl
@[simp] theorem setQueue_port (r : List Byte) : (setQueue r s).port = s.port := rfl

@[simp] theorem setOutcome_exst (o : OutcomeCode) : (setOutcome o s).exst = s.exst := rfl
@[simp] theorem setOutcome_expSync (o : OutcomeCode) : (setOutcome o s).expSync = s.expSync := rfl
@[simp] theorem setOutcome_expCmd (o : OutcomeCode) : (setOutcome o s).expCmd = s.expCmd := rfl
@[simp] theorem setOutcome_expMreq (o : OutcomeCode) : (setOutcome o s).expMreq = s.expMreq := rfl
@[simp] theorem setOutcome_expKind (o : OutcomeCode) : (setOutcome o s).expKind = s.expKind := rfl
@[simp] theorem setOutcome_mode (o : OutcomeCode) : (setOutcome o s).mode = s.mode := rfl
@[simp] theorem setOutcome_lastDist (o : OutcomeCode) : (setOutcome o s).lastDist = s.lastDist := rfl
@[simp] theorem setOutcome_lastAddr (o : OutcomeCode) : (setOutcome o s).lastAddr = s.lastAddr := rfl
@[simp] theorem setOutcome_lastValid (o : OutcomeCode) : (setOutcome o s).lastValid = s.lastValid := rfl
@[simp] theorem setOutcome_respAddr (o : OutcomeCode) : (setOutcome o s).respAddr = s.respAddr := rfl
@[simp] theorem setOutcome_respData (o : OutcomeCode) : (setOutcome o s).respData = s.respData := rfl
@[simp] theorem setOutcome_respStatus (o : OutcomeCode) : (setOutcome o s).respStatus = s.respStatus := rfl
@[simp] theorem setOutcome_outcome (o : OutcomeCode) : (setOutcome o s).outcome = o := rfl
@[simp] theorem setOutcome_ovr (o : OutcomeCode) : (setOutcome o s).ovr = s.ovr := rfl
@[simp] theorem setOutcome_ill (o : OutcomeCode) : (setOutcome o s).ill = s.ill := rfl
@[simp] theorem setOutcome_q (o : OutcomeCode) : (setOutcome o s).q = s.q := rfl
@[simp] theorem setOutcome_events (o : OutcomeCode) : (setOutcome o s).events = s.events := rfl
@[simp] theorem setOutcome_port (o : OutcomeCode) : (setOutcome o s).port = s.port := rfl

@[simp] theorem endExchange_exst (o : OutcomeCode) : (endExchange o s).exst = .idle := rfl
@[simp] theorem endExchange_expSync (o : OutcomeCode) : (endExchange o s).expSync = s.expSync := rfl
@[simp] theorem endExchange_expCmd (o : OutcomeCode) : (endExchange o s).expCmd = s.expCmd := rfl
@[simp] theorem endExchange_expMreq (o : OutcomeCode) : (endExchange o s).expMreq = s.expMreq := rfl
@[simp] theorem endExchange_expKind (o : OutcomeCode) : (endExchange o s).expKind = s.expKind := rfl
@[simp] theorem endExchange_mode (o : OutcomeCode) : (endExchange o s).mode = s.mode := rfl
@[simp] theorem endExchange_lastDist (o : OutcomeCode) : (endExchange o s).lastDist = s.lastDist := rfl
@[simp] theorem endExchange_lastAddr (o : OutcomeCode) : (endExchange o s).lastAddr = s.lastAddr := rfl
@[simp] theorem endExchange_lastValid (o : OutcomeCode) : (endExchange o s).lastValid = s.lastValid := rfl
@[simp] theorem endExchange_respAddr (o : OutcomeCode) : (endExchange o s).respAddr = s.respAddr := rfl
@[simp] theorem endExchange_respData (o : OutcomeCode) : (endExchange o s).respData = s.respData := rfl
@[simp] theorem endExchange_respStatus (o : OutcomeCode) : (endExchange o s).respStatus = s.respStatus := rfl
@[simp] theorem endExchange_outcome (o : OutcomeCode) : (endExchange o s).outcome = o := rfl
@[simp] theorem endExchange_ovr (o : OutcomeCode) : (endExchange o s).ovr = s.ovr := rfl
@[simp] theorem endExchange_ill (o : OutcomeCode) : (endExchange o s).ill = s.ill := rfl
@[simp] theorem endExchange_q (o : OutcomeCode) : (endExchange o s).q = s.q := rfl
@[simp] theorem endExchange_events (o : OutcomeCode) : (endExchange o s).events = s.events := rfl
@[simp] theorem endExchange_port (o : OutcomeCode) : (endExchange o s).port = s.port := rfl

@[simp] theorem storeResp_exst (d : Fields) : (storeResp d s).exst = s.exst := rfl
@[simp] theorem storeResp_expSync (d : Fields) : (storeResp d s).expSync = s.expSync := rfl
@[simp] theorem storeResp_expCmd (d : Fields) : (storeResp d s).expCmd = s.expCmd := rfl
@[simp] theorem storeResp_expMreq (d : Fields) : (storeResp d s).expMreq = s.expMreq := rfl
@[simp] theorem storeResp_expKind (d : Fields) : (storeResp d s).expKind = s.expKind := rfl
@[simp] theorem storeResp_mode (d : Fields) : (storeResp d s).mode = s.mode := rfl
@[simp] theorem storeResp_lastDist (d : Fields) : (storeResp d s).lastDist = s.lastDist := rfl
@[simp] theorem storeResp_lastAddr (d : Fields) : (storeResp d s).lastAddr = s.lastAddr := rfl
@[simp] theorem storeResp_lastValid (d : Fields) : (storeResp d s).lastValid = s.lastValid := rfl
@[simp] theorem storeResp_respAddr (d : Fields) : (storeResp d s).respAddr = d.addr := rfl
@[simp] theorem storeResp_respData (d : Fields) : (storeResp d s).respData = d.data := rfl
@[simp] theorem storeResp_respStatus (d : Fields) : (storeResp d s).respStatus = d.status := rfl
@[simp] theorem storeResp_outcome (d : Fields) : (storeResp d s).outcome = s.outcome := rfl
@[simp] theorem storeResp_ovr (d : Fields) : (storeResp d s).ovr = s.ovr := rfl
@[simp] theorem storeResp_ill (d : Fields) : (storeResp d s).ill = s.ill := rfl
@[simp] theorem storeResp_q (d : Fields) : (storeResp d s).q = s.q := rfl
@[simp] theorem storeResp_events (d : Fields) : (storeResp d s).events = s.events := rfl
@[simp] theorem storeResp_port (d : Fields) : (storeResp d s).port = s.port := rfl

@[simp] theorem storeSample_exst (d : Fields) : (storeSample d s).exst = s.exst := rfl
@[simp] theorem storeSample_expSync (d : Fields) : (storeSample d s).expSync = s.expSync := rfl
@[simp] theorem storeSample_expCmd (d : Fields) : (storeSample d s).expCmd = s.expCmd := rfl
@[simp] theorem storeSample_expMreq (d : Fields) : (storeSample d s).expMreq = s.expMreq := rfl
@[simp] theorem storeSample_expKind (d : Fields) : (storeSample d s).expKind = s.expKind := rfl
@[simp] theorem storeSample_mode (d : Fields) : (storeSample d s).mode = s.mode := rfl
@[simp] theorem storeSample_lastDist (d : Fields) : (storeSample d s).lastDist = d.data := rfl
@[simp] theorem storeSample_lastAddr (d : Fields) : (storeSample d s).lastAddr = d.addr := rfl
@[simp] theorem storeSample_lastValid (d : Fields) : (storeSample d s).lastValid = true := rfl
@[simp] theorem storeSample_respAddr (d : Fields) : (storeSample d s).respAddr = s.respAddr := rfl
@[simp] theorem storeSample_respData (d : Fields) : (storeSample d s).respData = s.respData := rfl
@[simp] theorem storeSample_respStatus (d : Fields) : (storeSample d s).respStatus = s.respStatus := rfl
@[simp] theorem storeSample_outcome (d : Fields) : (storeSample d s).outcome = s.outcome := rfl
@[simp] theorem storeSample_ovr (d : Fields) : (storeSample d s).ovr = s.ovr := rfl
@[simp] theorem storeSample_ill (d : Fields) : (storeSample d s).ill = s.ill := rfl
@[simp] theorem storeSample_q (d : Fields) : (storeSample d s).q = s.q := rfl
@[simp] theorem storeSample_events (d : Fields) : (storeSample d s).events = s.events := rfl
@[simp] theorem storeSample_port (d : Fields) : (storeSample d s).port = s.port := rfl

@[simp] theorem setMode_exst (m : UploadMode) : (setMode m s).exst = s.exst := rfl
@[simp] theorem setMode_expSync (m : UploadMode) : (setMode m s).expSync = s.expSync := rfl
@[simp] theorem setMode_expCmd (m : UploadMode) : (setMode m s).expCmd = s.expCmd := rfl
@[simp] theorem setMode_expMreq (m : UploadMode) : (setMode m s).expMreq = s.expMreq := rfl
@[simp] theorem setMode_expKind (m : UploadMode) : (setMode m s).expKind = s.expKind := rfl
@[simp] theorem setMode_mode (m : UploadMode) : (setMode m s).mode = m := rfl
@[simp] theorem setMode_lastDist (m : UploadMode) : (setMode m s).lastDist = s.lastDist := rfl
@[simp] theorem setMode_lastAddr (m : UploadMode) : (setMode m s).lastAddr = s.lastAddr := rfl
@[simp] theorem setMode_lastValid (m : UploadMode) : (setMode m s).lastValid = s.lastValid := rfl
@[simp] theorem setMode_respAddr (m : UploadMode) : (setMode m s).respAddr = s.respAddr := rfl
@[simp] theorem setMode_respData (m : UploadMode) : (setMode m s).respData = s.respData := rfl
@[simp] theorem setMode_respStatus (m : UploadMode) : (setMode m s).respStatus = s.respStatus := rfl
@[simp] theorem setMode_outcome (m : UploadMode) : (setMode m s).outcome = s.outcome := rfl
@[simp] theorem setMode_ovr (m : UploadMode) : (setMode m s).ovr = s.ovr := rfl
@[simp] theorem setMode_ill (m : UploadMode) : (setMode m s).ill = s.ill := rfl
@[simp] theorem setMode_q (m : UploadMode) : (setMode m s).q = s.q := rfl
@[simp] theorem setMode_events (m : UploadMode) : (setMode m s).events = s.events := rfl
@[simp] theorem setMode_port (m : UploadMode) : (setMode m s).port = s.port := rfl

@[simp] theorem openExchange_exst (a : StartArgs) : (openExchange a s).exst = .wait := rfl
@[simp] theorem openExchange_expSync (a : StartArgs) : (openExchange a s).expSync = a.sync := rfl
@[simp] theorem openExchange_expCmd (a : StartArgs) : (openExchange a s).expCmd = a.cmd := rfl
@[simp] theorem openExchange_expMreq (a : StartArgs) : (openExchange a s).expMreq = a.mreq := rfl
@[simp] theorem openExchange_expKind (a : StartArgs) : (openExchange a s).expKind = kindOf a.sync a.cmd := rfl
@[simp] theorem openExchange_mode (a : StartArgs) : (openExchange a s).mode = s.mode := rfl
@[simp] theorem openExchange_lastDist (a : StartArgs) : (openExchange a s).lastDist = s.lastDist := rfl
@[simp] theorem openExchange_lastAddr (a : StartArgs) : (openExchange a s).lastAddr = s.lastAddr := rfl
@[simp] theorem openExchange_lastValid (a : StartArgs) : (openExchange a s).lastValid = s.lastValid := rfl
@[simp] theorem openExchange_respAddr (a : StartArgs) : (openExchange a s).respAddr = s.respAddr := rfl
@[simp] theorem openExchange_respData (a : StartArgs) : (openExchange a s).respData = s.respData := rfl
@[simp] theorem openExchange_respStatus (a : StartArgs) : (openExchange a s).respStatus = s.respStatus := rfl
@[simp] theorem openExchange_outcome (a : StartArgs) : (openExchange a s).outcome = .none := rfl
@[simp] theorem openExchange_ovr (a : StartArgs) : (openExchange a s).ovr = s.ovr := rfl
@[simp] theorem openExchange_ill (a : StartArgs) : (openExchange a s).ill = s.ill := rfl
@[simp] theorem openExchange_q (a : StartArgs) : (openExchange a s).q = s.q := rfl
@[simp] theorem openExchange_events (a : StartArgs) : (openExchange a s).events = s.events := rfl
@[simp] theorem openExchange_port (a : StartArgs) : (openExchange a s).port = s.port := rfl

@[simp] theorem setPort_exst (p : List PortItem) : (setPort p s).exst = s.exst := rfl
@[simp] theorem setPort_expSync (p : List PortItem) : (setPort p s).expSync = s.expSync := rfl
@[simp] theorem setPort_expCmd (p : List PortItem) : (setPort p s).expCmd = s.expCmd := rfl
@[simp] theorem setPort_expMreq (p : List PortItem) : (setPort p s).expMreq = s.expMreq := rfl
@[simp] theorem setPort_expKind (p : List PortItem) : (setPort p s).expKind = s.expKind := rfl
@[simp] theorem setPort_mode (p : List PortItem) : (setPort p s).mode = s.mode := rfl
@[simp] theorem setPort_lastDist (p : List PortItem) : (setPort p s).lastDist = s.lastDist := rfl
@[simp] theorem setPort_lastAddr (p : List PortItem) : (setPort p s).lastAddr = s.lastAddr := rfl
@[simp] theorem setPort_lastValid (p : List PortItem) : (setPort p s).lastValid = s.lastValid := rfl
@[simp] theorem setPort_respAddr (p : List PortItem) : (setPort p s).respAddr = s.respAddr := rfl
@[simp] theorem setPort_respData (p : List PortItem) : (setPort p s).respData = s.respData := rfl
@[simp] theorem setPort_respStatus (p : List PortItem) : (setPort p s).respStatus = s.respStatus := rfl
@[simp] theorem setPort_outcome (p : List PortItem) : (setPort p s).outcome = s.outcome := rfl
@[simp] theorem setPort_ovr (p : List PortItem) : (setPort p s).ovr = s.ovr := rfl
@[simp] theorem setPort_ill (p : List PortItem) : (setPort p s).ill = s.ill := rfl
@[simp] theorem setPort_q (p : List PortItem) : (setPort p s).q = s.q := rfl
@[simp] theorem setPort_events (p : List PortItem) : (setPort p s).events = s.events := rfl
@[simp] theorem setPort_port (p : List PortItem) : (setPort p s).port = p := rfl

@[simp] theorem setOvr_exst : (setOvr s).exst = s.exst := rfl
@[simp] theorem setOvr_expSync : (setOvr s).expSync = s.expSync := rfl
@[simp] theorem setOvr_expCmd : (setOvr s).expCmd = s.expCmd := rfl
@[simp] theorem setOvr_expMreq : (setOvr s).expMreq = s.expMreq := rfl
@[simp] theorem setOvr_expKind : (setOvr s).expKind = s.expKind := rfl
@[simp] theorem setOvr_mode : (setOvr s).mode = s.mode := rfl
@[simp] theorem setOvr_lastDist : (setOvr s).lastDist = s.lastDist := rfl
@[simp] theorem setOvr_lastAddr : (setOvr s).lastAddr = s.lastAddr := rfl
@[simp] theorem setOvr_lastValid : (setOvr s).lastValid = s.lastValid := rfl
@[simp] theorem setOvr_respAddr : (setOvr s).respAddr = s.respAddr := rfl
@[simp] theorem setOvr_respData : (setOvr s).respData = s.respData := rfl
@[simp] theorem setOvr_respStatus : (setOvr s).respStatus = s.respStatus := rfl
@[simp] theorem setOvr_outcome : (setOvr s).outcome = s.outcome := rfl
@[simp] theorem setOvr_ovr : (setOvr s).ovr = true := rfl
@[simp] theorem setOvr_ill : (setOvr s).ill = s.ill := rfl
@[simp] theorem setOvr_q : (setOvr s).q = s.q := rfl
@[simp] theorem setOvr_events : (setOvr s).events = s.events := rfl
@[simp] theorem setOvr_port : (setOvr s).port = s.port := rfl

@[simp] theorem clearOvr_exst : (clearOvr s).exst = s.exst := rfl
@[simp] theorem clearOvr_expSync : (clearOvr s).expSync = s.expSync := rfl
@[simp] theorem clearOvr_expCmd : (clearOvr s).expCmd = s.expCmd := rfl
@[simp] theorem clearOvr_expMreq : (clearOvr s).expMreq = s.expMreq := rfl
@[simp] theorem clearOvr_expKind : (clearOvr s).expKind = s.expKind := rfl
@[simp] theorem clearOvr_mode : (clearOvr s).mode = s.mode := rfl
@[simp] theorem clearOvr_lastDist : (clearOvr s).lastDist = s.lastDist := rfl
@[simp] theorem clearOvr_lastAddr : (clearOvr s).lastAddr = s.lastAddr := rfl
@[simp] theorem clearOvr_lastValid : (clearOvr s).lastValid = s.lastValid := rfl
@[simp] theorem clearOvr_respAddr : (clearOvr s).respAddr = s.respAddr := rfl
@[simp] theorem clearOvr_respData : (clearOvr s).respData = s.respData := rfl
@[simp] theorem clearOvr_respStatus : (clearOvr s).respStatus = s.respStatus := rfl
@[simp] theorem clearOvr_outcome : (clearOvr s).outcome = s.outcome := rfl
@[simp] theorem clearOvr_ovr : (clearOvr s).ovr = false := rfl
@[simp] theorem clearOvr_ill : (clearOvr s).ill = s.ill := rfl
@[simp] theorem clearOvr_q : (clearOvr s).q = s.q := rfl
@[simp] theorem clearOvr_events : (clearOvr s).events = s.events := rfl
@[simp] theorem clearOvr_port : (clearOvr s).port = s.port := rfl

@[simp] theorem setIll_exst : (setIll s).exst = s.exst := rfl
@[simp] theorem setIll_expSync : (setIll s).expSync = s.expSync := rfl
@[simp] theorem setIll_expCmd : (setIll s).expCmd = s.expCmd := rfl
@[simp] theorem setIll_expMreq : (setIll s).expMreq = s.expMreq := rfl
@[simp] theorem setIll_expKind : (setIll s).expKind = s.expKind := rfl
@[simp] theorem setIll_mode : (setIll s).mode = s.mode := rfl
@[simp] theorem setIll_lastDist : (setIll s).lastDist = s.lastDist := rfl
@[simp] theorem setIll_lastAddr : (setIll s).lastAddr = s.lastAddr := rfl
@[simp] theorem setIll_lastValid : (setIll s).lastValid = s.lastValid := rfl
@[simp] theorem setIll_respAddr : (setIll s).respAddr = s.respAddr := rfl
@[simp] theorem setIll_respData : (setIll s).respData = s.respData := rfl
@[simp] theorem setIll_respStatus : (setIll s).respStatus = s.respStatus := rfl
@[simp] theorem setIll_outcome : (setIll s).outcome = s.outcome := rfl
@[simp] theorem setIll_ovr : (setIll s).ovr = s.ovr := rfl
@[simp] theorem setIll_ill : (setIll s).ill = true := rfl
@[simp] theorem setIll_q : (setIll s).q = s.q := rfl
@[simp] theorem setIll_events : (setIll s).events = s.events := rfl
@[simp] theorem setIll_port : (setIll s).port = s.port := rfl

@[simp] theorem resetState_exst : (resetState s).exst = .idle := rfl
@[simp] theorem resetState_expSync : (resetState s).expSync = 0x00#8 := rfl
@[simp] theorem resetState_expCmd : (resetState s).expCmd = 0x00#8 := rfl
@[simp] theorem resetState_expMreq : (resetState s).expMreq = .none := rfl
@[simp] theorem resetState_expKind : (resetState s).expKind = .config := rfl
@[simp] theorem resetState_mode : (resetState s).mode = .manual := rfl
@[simp] theorem resetState_lastDist : (resetState s).lastDist = 0x0000#16 := rfl
@[simp] theorem resetState_lastAddr : (resetState s).lastAddr = 0x0000#16 := rfl
@[simp] theorem resetState_lastValid : (resetState s).lastValid = false := rfl
@[simp] theorem resetState_respAddr : (resetState s).respAddr = 0x0000#16 := rfl
@[simp] theorem resetState_respData : (resetState s).respData = 0x0000#16 := rfl
@[simp] theorem resetState_respStatus : (resetState s).respStatus = 0x00#8 := rfl
@[simp] theorem resetState_outcome : (resetState s).outcome = .none := rfl
@[simp] theorem resetState_ovr : (resetState s).ovr = false := rfl
@[simp] theorem resetState_ill : (resetState s).ill = false := rfl
@[simp] theorem resetState_q : (resetState s).q = [] := rfl
@[simp] theorem resetState_events : (resetState s).events = s.events := rfl
@[simp] theorem resetState_port : (resetState s).port = s.port := rfl

end Sys2Proof.Machine
end

