-- ==== Sys2Proof/Laws/Ops.lean ====
section
/-! SUPPORT. What each shared operation can do, said once: the settle phase and completion, the main phases,
and the delivery of bytes. Later proofs cite these and do not unfold the operations. -/

namespace Sys2Proof.Machine

variable {s : State}

/-! ### The queue's capacity -/

/-- All that is known of RXQ_DEPTH (00_scope.md R9). -/
theorem rxqDepth_bounds : 9 ≤ Config.rxqDepth ∧ Config.rxqDepth < 65536 := by
  have h := Config.rxqSpare.isLt
  unfold Config.rxqDepth Config.frameLen
  omega

/-! ### The settle phase -/

theorem settle_of_idle (h : s.exst = .idle) : settle s = s := by
  unfold settle; rw [h]

theorem settle_of_short (h : s.q.length < 9) : settle s = s := by
  unfold settle; rw [peek9_eq_none.2 h]; cases s.exst <;> rfl

theorem settle_of_settled (h : s.exst = .wait → s.q.length < 9) : settle s = s := by
  cases he : s.exst with
  | idle => exact settle_of_idle he
  | wait => exact settle_of_short (h he)

theorem settle_of_window {w : Frame} {rest : List Byte} (h : s.exst = .wait) (hq : s.q = w.bytes ++ rest) :
    settle s = complete w s := by
  unfold settle; rw [h, hq]; rfl

/-- The settle phase does nothing, or completes a waiting exchange on the window at the head. -/
theorem settle_cases (s : State) :
    (settle s = s ∧ (s.exst = .wait → s.q.length < 9)) ∨
      ∃ w, s.exst = .wait ∧ s.q = w.bytes ++ s.q.drop 9 ∧ settle s = complete w s := by
  by_cases h : s.exst = .wait ∧ 9 ≤ s.q.length
  · obtain ⟨w, hw⟩ := exists_window h.2
    exact .inr ⟨w, h.1, hw, settle_of_window h.1 hw⟩
  · have h' : s.exst = .wait → s.q.length < 9 := fun he => by
      by_contra hl; exact h ⟨he, by omega⟩
    exact .inl ⟨settle_of_settled h', h'⟩

/-! ### Completion -/

@[simp] theorem confirmedMode_setQueue (q : List Byte) : confirmedMode (setQueue q s) = confirmedMode s := rfl
@[simp] theorem confirmedMode_endExchange (o : OutcomeCode) : confirmedMode (endExchange o s) = confirmedMode s := rfl
@[simp] theorem confirmedMode_storeResp (d : Fields) : confirmedMode (storeResp d s) = confirmedMode s := rfl
@[simp] theorem confirmedMode_storeSample (d : Fields) : confirmedMode (storeSample d s) = confirmedMode s := rfl
@[simp] theorem confirmedMode_setPort (p : List PortItem) : confirmedMode (setPort p s) = confirmedMode s := rfl

/-- A confirmed mode is the one requested, of an exchange with the SetUploadMode pair. -/
theorem confirmedMode_eq_some {m : UploadMode} :
    confirmedMode s = some m ↔ s.expSync = 0x62#8 ∧ s.expCmd = 0x34#8 ∧
      ((s.expMreq = .manual ∧ m = .manual) ∨ (s.expMreq = .auto ∧ m = .auto)) := by
  unfold confirmedMode isSetUploadModePair
  cases s.expMreq <;> cases m <;> simp

/-- What a SUCCESS writes: the sample of a distance exchange, the mode of a confirmed mode exchange. -/
theorem recordSuccess_eq (d : Fields) (s : State) :
    recordSuccess d s =
      { s with lastAddr := if s.expKind = .dist then d.addr else s.lastAddr,
               lastDist := if s.expKind = .dist then d.data else s.lastDist,
               lastValid := if s.expKind = .dist then true else s.lastValid,
               mode := (confirmedMode s).getD s.mode } := by
  unfold recordSuccess
  by_cases h : s.expKind = .dist
  · simp only [if_pos h]
    cases confirmedMode s <;> rfl
  · simp only [if_neg h]
    cases confirmedMode s <;> rfl

/-- Completion on a frame that Validate refuses: nine bytes gone, the outcome, no register of a response. -/
theorem complete_of_bad {w : Frame} (h : validate w s.expSync s.expCmd ≠ .ok) :
    complete w s = emit (.exchDone (classify s.expKind (validate w s.expSync s.expCmd) w.status))
      (endExchange (classify s.expKind (validate w s.expSync s.expCmd) w.status) (setQueue (s.q.drop 9) s)) := by
  simp [complete, h]

/-- Completion on a structurally valid frame. -/
theorem complete_of_ok {w : Frame} (h : validate w s.expSync s.expCmd = .ok) :
    complete w s =
      emit (.exchDoneResp (classify s.expKind .ok w.status) (fieldsOf w).addr (fieldsOf w).data (fieldsOf w).status)
        (if classify s.expKind .ok w.status = .success then
          recordSuccess (fieldsOf w)
            (storeResp (fieldsOf w) (endExchange (classify s.expKind .ok w.status) (setQueue (s.q.drop 9) s)))
        else storeResp (fieldsOf w) (endExchange (classify s.expKind .ok w.status) (setQueue (s.q.drop 9) s))) := by
  simp [complete, h]

/-- What a completion leaves, whatever the frame. -/
theorem complete_frame (w : Frame) (s : State) :
    (complete w s).exst = .idle ∧ (complete w s).q = s.q.drop 9 ∧
      (complete w s).outcome = classify s.expKind (validate w s.expSync s.expCmd) w.status ∧
      (complete w s).expSync = s.expSync ∧ (complete w s).expCmd = s.expCmd ∧
      (complete w s).expMreq = s.expMreq ∧ (complete w s).expKind = s.expKind ∧
      (complete w s).ovr = s.ovr ∧ (complete w s).ill = s.ill ∧ (complete w s).port = s.port := by
  by_cases h : validate w s.expSync s.expCmd = .ok
  · rw [complete_of_ok h, h]
    split <;> simp [recordSuccess_eq]
  · rw [complete_of_bad h]
    simp

/-- A completion emits one event, the end of the exchange. -/
theorem complete_events (w : Frame) (s : State) :
    (∃ o, (complete w s).events = s.events ++ [.exchDone o]) ∨
      ∃ o a d st, (complete w s).events = s.events ++ [.exchDoneResp o a d st] := by
  by_cases h : validate w s.expSync s.expCmd = .ok
  · refine .inr ⟨classify s.expKind .ok w.status, (fieldsOf w).addr, (fieldsOf w).data, (fieldsOf w).status, ?_⟩
    rw [complete_of_ok h]
    split <;> simp [recordSuccess_eq]
  · exact .inl ⟨_, by rw [complete_of_bad h]; simp; rfl⟩

/-- The settle phase leaves a settled state, whatever it found. -/
theorem settle_settled (s : State) : (settle s).exst = .wait → (settle s).q.length < 9 := by
  rcases settle_cases s with ⟨e, h⟩ | ⟨w, _, _, h⟩
  · rw [e]; exact h
  · rw [h, (complete_frame w s).1]; exact fun h => by cases h

@[simp] theorem settle_port (s : State) : (settle s).port = s.port := by
  rcases settle_cases s with ⟨e, _⟩ | ⟨w, _, _, h⟩
  · rw [e]
  · rw [h, (complete_frame w s).2.2.2.2.2.2.2.2.2]

/-! ### Main phases -/

/-- RXB stores its byte where there is room, else drops it and sets OVR. -/
theorem rxbMain_cases (b : Byte) (s : State) :
    (s.q.length < Config.rxqDepth ∧ rxbMain b s = emit .done (setQueue (s.q ++ [b]) s)) ∨
      (Config.rxqDepth ≤ s.q.length ∧ rxbMain b s = emit (.overrun b) (setOvr s)) := by
  unfold rxbMain
  split <;> rename_i h
  · exact .inl ⟨h, rfl⟩
  · exact .inr ⟨by omega, rfl⟩

/-- POLL's five outcomes, in the order of 60_exceptions.md R204. -/
theorem pollMain_cases (s : State) :
    (s.exst = .wait ∧ pollMain s = emit .pollBusy s) ∨
    (s.exst = .idle ∧ s.mode = .manual ∧ pollMain s = emit .pollNotAuto s) ∨
    (s.exst = .idle ∧ s.mode = .auto ∧ s.q.length < 9 ∧ pollMain s = emit .pollNone s) ∨
    (∃ w, s.exst = .idle ∧ s.mode = .auto ∧ s.q = w.bytes ++ s.q.drop 9 ∧ validate w 0x62#8 0x33#8 = .ok ∧
      pollMain s = emit (.sample (fieldsOf w).addr (fieldsOf w).data)
        (storeSample (fieldsOf w) (setQueue (s.q.drop 9) s))) ∨
    (∃ w, s.exst = .idle ∧ s.mode = .auto ∧ s.q = w.bytes ++ s.q.drop 9 ∧ validate w 0x62#8 0x33#8 ≠ .ok ∧
      pollMain s = emit (.discard w.sync) (setQueue (s.q.drop 1) s)) := by
  cases he : s.exst with
  | wait => simp [pollMain, he]
  | idle =>
    cases hm : s.mode with
    | manual => simp [pollMain, he, hm]
    | auto =>
      cases hp : peek9 s.q with
      | none => simp [pollMain, he, hm, hp, peek9_eq_none.1 hp]
      | some w =>
        by_cases hv : validate w 0x62#8 0x33#8 = .ok
        · exact .inr (.inr (.inr (.inl ⟨w, rfl, rfl, peek9_eq_some.1 hp, hv, by simp [pollMain, he, hm, hp, hv]⟩)))
        · exact .inr (.inr (.inr (.inr ⟨w, rfl, rfl, peek9_eq_some.1 hp, hv, by simp [pollMain, he, hm, hp, hv]⟩)))

/-- START*'s refusals and its acceptance, in the order of 60_exceptions.md R204. -/
theorem startMain_cases (a : StartArgs) (s : State) :
    (s.exst = .wait ∧ startMain a s = emit (.rejected .busy) s) ∨
    (s.exst = .idle ∧ kindOf a.sync a.cmd = .dist ∧ s.mode = .auto ∧
      startMain a s = refuseStart .modeConflict s) ∨
    (s.exst = .idle ∧ ¬ (kindOf a.sync a.cmd = .dist ∧ s.mode = .auto) ∧ isSetAddressPair a.sync a.cmd = true ∧
      Config.addrMax < cat16 a.p0 a.p1 ∧ startMain a s = refuseStart .paramError s) ∨
    (s.exst = .idle ∧ ¬ (kindOf a.sync a.cmd = .dist ∧ s.mode = .auto) ∧
      ¬ (isSetAddressPair a.sync a.cmd = true ∧ Config.addrMax < cat16 a.p0 a.p1) ∧
      startMain a s = acceptStart a s) := by
  cases he : s.exst with
  | wait => simp [startMain, he]
  | idle =>
    by_cases h1 : kindOf a.sync a.cmd = .dist ∧ s.mode = .auto
    · simp [startMain, he, h1]
    · by_cases h2 : isSetAddressPair a.sync a.cmd = true ∧ Config.addrMax < cat16 a.p0 a.p1
      · exact .inr (.inr (.inl ⟨rfl, h1, h2.1, h2.2, by simp [startMain, he, h1, h2]⟩))
      · exact .inr (.inr (.inr ⟨rfl, h1, h2, by
          unfold startMain; rw [if_neg (by simp [he]), if_neg h1, if_neg h2]⟩))

/-- A report ends the outstanding exchange, or finds none. -/
theorem reportMain_cases (o : OutcomeCode) (s : State) :
    (s.exst = .wait ∧ reportMain o s = emit (.exchDone o) (endExchange o s)) ∨
      (s.exst = .idle ∧ reportMain o s = emit .ignored s) := by
  cases he : s.exst <;> simp [reportMain, he]

/-! ### Delivery of bytes -/

@[simp] theorem receive_nil (s : State) : receive [] s = s := rfl

@[simp] theorem receive_cons (b : Byte) (bs : List Byte) (s : State) :
    receive (b :: bs) s = receive bs (settle (rxbMain b s)) := rfl

/-- Bytes delivered in two parts. -/
theorem receive_append (bs cs : List Byte) (s : State) : receive (bs ++ cs) s = receive cs (receive bs s) := by
  induction bs generalizing s with
  | nil => rfl
  | cons b bs ih => simp [ih]

/-- A property of the state that every RXB keeps is kept by the delivery of any bytes. -/
theorem receive_induction {P : State → Prop} (hstep : ∀ b s, P s → P (settle (rxbMain b s))) :
    ∀ (bs : List Byte) (s : State), P s → P (receive bs s)
  | [], _, h => h
  | b :: bs, s, h => receive_induction hstep bs _ (hstep b s h)

end Sys2Proof.Machine
end

