-- ==== Sys2Proof/Laws/PerInstr.lean ====
section
/-! SUPPORT. Statements about every instruction as syntax, one lemma per constructor. -/

namespace Sys2Proof.Laws.EncodeLength

/-- A sensor frame is nine operation words, every other instruction is one. -/
def Statement (i : Instr) : Prop :=
  (encode i).length = if (sensorFrameOf i).isSome then 9 else 1

theorem nop : Statement .nop := rfl
theorem rxb (b : Byte) : Statement (.rxb b) := rfl
theorem poll : Statement .poll := rfl
theorem start (sync cmd : Byte) (addr : Half) (p0 p1 p2 : Byte) : Statement (.start sync cmd addr p0 p1 p2) := rfl
theorem startMan (sync cmd : Byte) (addr : Half) (p0 p1 p2 : Byte) : Statement (.startMan sync cmd addr p0 p1 p2) := rfl
theorem startAuto (sync cmd : Byte) (addr : Half) (p0 p1 p2 : Byte) : Statement (.startAuto sync cmd addr p0 p1 p2) := rfl
theorem timeout : Statement .timeout := rfl
theorem txfail : Statement .txfail := rfl
theorem flush : Statement .flush := rfl
theorem brst : Statement .brst := rfl
theorem resetHard (pos : SelPos) (addr : Half) : Statement (.resetHard pos addr) := rfl
theorem resetSoft (pos : SelPos) (addr : Half) : Statement (.resetSoft pos addr) := rfl
theorem setAddr (addr new : Half) : Statement (.setAddr addr new) := rfl
theorem setBaud (addr : Half) (p0 p1 p2 : Byte) : Statement (.setBaud addr p0 p1 p2) := rfl
theorem setUpModeAuto (addr : Half) (p0 p1 p2 : Byte) : Statement (.setUpModeAuto addr p0 p1 p2) := rfl
theorem setUpModeMan (addr : Half) (p0 p1 p2 : Byte) : Statement (.setUpModeMan addr p0 p1 p2) := rfl
theorem setUpInt (addr : Half) (p0 p1 p2 : Byte) : Statement (.setUpInt addr p0 p1 p2) := rfl
theorem setCommA (addr : Half) (p0 p1 p2 : Byte) : Statement (.setCommA addr p0 p1 p2) := rfl
theorem setCommB (addr : Half) (p0 p1 p2 : Byte) : Statement (.setCommB addr p0 p1 p2) := rfl
theorem setLed (addr : Half) (p0 p1 p2 : Byte) : Statement (.setLed addr p0 p1 p2) := rfl
theorem setRelay (addr : Half) (p0 p1 p2 : Byte) : Statement (.setRelay addr p0 p1 p2) := rfl
theorem readDist (addr : Half) : Statement (.readDist addr) := rfl
theorem respConfig (sync cmd len : Byte) (addr data : Half) (status checksum : Byte) : Statement (.respConfig sync cmd len addr data status checksum) := rfl
theorem frameDist (len : Byte) (addr dist : Half) (status checksum : Byte) : Statement (.frameDist len addr dist status checksum) := rfl

end Sys2Proof.Laws.EncodeLength
end

