-- ==== Sys2Proof/Laws/Step.lean ====
section
/-! SUPPORT. What exec and step do with each kind of instruction and transfer, in terms of the shared
operations. -/

namespace Sys2Proof.Machine

variable (s : State)

@[simp] theorem exec_nop : exec (.nop) s = .next (settle (nopMain s)) := rfl
@[simp] theorem exec_rxb (b : Byte) : exec (.rxb b) s = .next (settle (rxbMain b s)) := rfl
@[simp] theorem exec_poll : exec (.poll) s = .next (settle (pollMain s)) := rfl
@[simp] theorem exec_timeout : exec (.timeout) s = .next (settle (reportMain .timeout s)) := rfl
@[simp] theorem exec_txfail : exec (.txfail) s = .next (settle (reportMain .transportError s)) := rfl
@[simp] theorem exec_flush : exec (.flush) s = .next (settle (flushMain s)) := rfl
@[simp] theorem exec_brst : exec (.brst) s = .next (settle (brstMain s)) := rfl

/-- A START* or a command pseudo-instruction runs START* on its operands. -/
theorem exec_of_startArgs {i : Instr} {a : StartArgs} (h : startArgsOf i = some a) :
    exec i s = .next (settle (startMain a s)) := by
  cases i <;> simp only [startArgsOf, Option.some.injEq, reduceCtorEq] at h <;> subst h <;> rfl

/-- A sensor row delivers its frame's bytes. -/
theorem exec_of_sensorFrame {i : Instr} {f : Frame} (h : sensorFrameOf i = some f) :
    exec i s = .next (receive f.bytes s) := by
  cases i <;> simp only [sensorFrameOf, Option.some.injEq, reduceCtorEq] at h <;> subst h <;> rfl

/-- Every instruction is one of nine kinds: the seven operations without START* operands, those with, and the
sensor rows. -/
theorem instr_cases (i : Instr) :
    i = .nop ∨ (∃ b, i = .rxb b) ∨ i = .poll ∨ i = .timeout ∨ i = .txfail ∨ i = .flush ∨ i = .brst ∨
      (∃ a, startArgsOf i = some a) ∨ ∃ f, sensorFrameOf i = some f := by
  cases i <;> simp [startArgsOf, sensorFrameOf]

/-! ### Transfers -/

theorem step_nil (h : s.port = []) : step s = .next s := by
  unfold step; rw [h]

theorem step_cons {item : PortItem} {rest : List PortItem} (h : s.port = item :: rest) :
    step s = runFetched (fetchItem item) (setPort rest s) := by
  unfold step; rw [h]

theorem fetchItem_word {w : OpWord} {i : Instr} (h : decodeOp w = .ok i) : fetchItem (.word w) = .run i := by
  simp [fetchItem, h]

theorem fetchItem_illegal {w : OpWord} {r : IllegalWord} (h : decodeOp w = .error r) :
    fetchItem (.word w) = .illegal w := by
  simp [fetchItem, h]

@[simp] theorem fetchItem_line (i : Instr) : fetchItem (.line i) = .run i := rfl
@[simp] theorem fetchItem_resetInput : fetchItem .resetInput = .resetInput := rfl
@[simp] theorem runFetched_run (i : Instr) : runFetched (.run i) s = exec i s := rfl
@[simp] theorem runFetched_illegal (w : OpWord) :
    runFetched (.illegal w) s = .next (settle (illegalMain w s)) := rfl
@[simp] theorem runFetched_resetInput : runFetched .resetInput s = .next (resetState s) := rfl

/-- A run's first step, when it has a next state. -/
theorem run_succ {s t : State} {k : Nat} (h : step s = .next t) :
    Sys2Proof.core.run (k + 1) s = Sys2Proof.core.run k t := by
  have run : ∀ (M : Host.Core) (s t : M.State), M.step s = .next t → M.run (k + 1) s = M.run k t := by
    intro M s t h
    rw [Host.Core.run, h]
  exact run Sys2Proof.core s t h

/-- The decoder answers operations only. -/
theorem decodeOp_isOperation {w : OpWord} {i : Instr} (h : decodeOp w = .ok i) : i.isOperation = true := by
  unfold decodeOp at h
  repeat' split at h
  all_goals cases h
  all_goals rfl

end Sys2Proof.Machine
end

