-- ==== Sys2Proof/Tests/Slice0.lean ====
section
/-! SUPPORT. Tests of the model, and for each statement with hypotheses a witness that they can be met. Words,
frames, events and end states are those of 95_test_vectors.md; a vector's name stands beside its test. -/

namespace Sys2Proof.Tests

open Machine

/-! ### Small states and one step -/

/-- The reset state with another exchange state, mode and queue. -/
def st (e : ExchangeState) (m : UploadMode) (q : List Byte) : State :=
  { State.reset with exst := e, mode := m, q := q }

/-- Waiting for the response to a pair. -/
def waitFor (sync cmd : Byte) (m : Mreq) (k : Kind) (q : List Byte) : State :=
  { State.reset with exst := .wait, expSync := sync, expCmd := cmd, expMreq := m, expKind := k, q := q }

/-- The state after one transfer; `s` itself where the step stops. -/
def after (item : PortItem) (s : State) : State :=
  match step { s with port := [item] } with
  | .next t => t
  | .fault _ => s
  | .refused _ => s

/-- The frame of 500 mm from 0xFFFF (95_test_vectors.md 2.9). -/
def dist500 : Frame := ⟨0x62, 0x33, 0x09, 0xFF, 0xFF, 0x01, 0xF4, 0x00, 0xAD⟩

/-- The same frame with its checksum altered (V-VAL-2). -/
def badCsum : Frame := ⟨0x62, 0x33, 0x09, 0xFF, 0xFF, 0x01, 0xF4, 0x00, 0xAC⟩

/-- The acknowledgement of SetLED (95_test_vectors.md 2.9). -/
def ackLed : Frame := ⟨0x62, 0x37, 0x09, 0xFF, 0xFF, 0x00, 0x00, 0x66, 0x3A⟩

/-! ### Well-formedness -/

theorem test_respConfig_with_distance_pair_is_ill_formed :
    (Instr.respConfig 0x62 0x33 0x09 0xFFFF 0x01F4 0x00 0xAD).wellFormed = false ∧
    (Instr.respConfig 0x62 0x34 0x09 0xFFFF 0x0100 0x66 0x38).wellFormed = true ∧
    (Instr.respConfig 0x61 0x33 0x09 0xFFFF 0x0000 0x66 0x3D).wellFormed = true := by decide

/-! ### Decoding: 95_test_vectors.md 2.6 and 2.9 -/

theorem test_decode_operations :
    decodeOp 0x0000000000000000#64 = .ok .nop ∧ decodeOp 0x1000000000000062#64 = .ok (.rxb 0x62) ∧
    decodeOp 0x2000000000000000#64 = .ok .poll ∧ decodeOp 0x4000000000000000#64 = .ok .timeout ∧
    decodeOp 0x5000000000000000#64 = .ok .txfail ∧ decodeOp 0x6000000000000000#64 = .ok .flush ∧
    decodeOp 0x7000000000000000#64 = .ok .brst := by decide

theorem test_decode_starts :
    decodeOp 0x3062321234000500#64 = .ok (.start 0x62 0x32 0x1234 0x00 0x05 0x00) ∧
    decodeOp 0x316234FFFF000000#64 = .ok (.startMan 0x62 0x34 0xFFFF 0x00 0x00 0x00) ∧
    decodeOp 0x326234FFFF010000#64 = .ok (.startAuto 0x62 0x34 0xFFFF 0x01 0x00 0x00) := by decide

theorem test_decode_illegal :
    decodeOp 0x336234FFFF000000#64 = .error .reservedMreq ∧ decodeOp 0x346233FFFF000000#64 = .error .nonzeroBits ∧
    decodeOp 0x7000000000000001#64 = .error .nonzeroBits ∧ decodeOp 0x8000000000000000#64 = .error .reservedOp ∧
    decodeOp 0xFFFFFFFFFFFFFFFF#64 = .error .reservedOp := by decide

theorem test_decode_command_frames :
    decodeTableWord 72 0x623909FFFFFE0000AC = some (.resetHard .byte5 0xFFFF) ∧
    decodeTableWord 72 0x623909FFFFFD0000AF = some (.resetSoft .byte5 0xFFFF) ∧
    decodeTableWord 72 0x623209FFFF1234007F = some (.setAddr 0xFFFF 0x1234) ∧
    decodeTableWord 72 0x623009FFFF09000052 = some (.setBaud 0xFFFF 0x09 0x00 0x00) ∧
    decodeTableWord 72 0x623409FFFF0100005E = some (.setUpModeAuto 0xFFFF 0x01 0x00 0x00) ∧
    decodeTableWord 72 0x623509FFFF0A000054 = some (.setUpInt 0xFFFF 0x0A 0x00 0x00) ∧
    decodeTableWord 72 0x613009FFFF00000058 = some (.setCommA 0xFFFF 0x00 0x00 0x00) ∧
    decodeTableWord 72 0x623109FFFF0000005A = some (.setCommB 0xFFFF 0x00 0x00 0x00) ∧
    decodeTableWord 72 0x623709FFFF0000005C = some (.setLed 0xFFFF 0x00 0x00 0x00) ∧
    decodeTableWord 72 0x623809FFFF00000053 = some (.setRelay 0xFFFF 0x00 0x00 0x00) ∧
    decodeTableWord 72 0x623309FFFF00000058 = some (.readDist 0xFFFF) := by decide

theorem test_decode_reset_selector_positions :
    decodeTableWord 72 0x623909FFFF00FE00AC = some (.resetHard .byte6 0xFFFF) ∧
    decodeTableWord 72 0x623909FFFF0000FDAF = some (.resetSoft .byte7 0xFFFF) := by decide

theorem test_decode_manual_mode_by_its_request :
    decodeCommand .manual ⟨0x62, 0x34, 0x09, 0xFF, 0xFF, 0x00, 0x00, 0x00, 0x5F⟩ =
      .ok (.setUpModeMan 0xFFFF 0x00 0x00 0x00) := by decide

theorem test_decode_sensor_frames :
    decodeSensor dist500 = .frameDist 0x09 0xFFFF 0x01F4 0x00 0xAD ∧
    decodeSensor ackLed = .respConfig 0x62 0x37 0x09 0xFFFF 0x0000 0x66 0x3A ∧
    decodeTableWord 72 0x623309FFFF01F400AD = some (.frameDist 0x09 0xFFFF 0x01F4 0x00 0xAD) ∧
    decodeTableWord 72 0x623400FFFF01006631 = some (.respConfig 0x62 0x34 0x00 0xFFFF 0x0100 0x66 0x31) := by decide

/-! ### The codec: V-CS, V-BF, V-VAL, V-DEC, V-CLS -/

theorem test_checksum :
    xorFold [0x62, 0x33, 0x09, 0xFF, 0xFF, 0x01, 0xF4, 0x00] = 0xAD#8 ∧
    xorFold [0x00, 0xFF, 0xFF, 0x09, 0x33, 0x62, 0x00, 0x00] = 0x58#8 := by decide

theorem test_buildFrame :
    buildFrame 0x62 0x33 0x0001 0x03 0xE8 0x00 = ⟨0x62, 0x33, 0x09, 0x00, 0x01, 0x03, 0xE8, 0x00, 0xB2⟩ ∧
    buildFrame 0x61 0x33 0xFFFF 0x00 0x00 0x00 = ⟨0x61, 0x33, 0x09, 0xFF, 0xFF, 0x00, 0x00, 0x00, 0x5B⟩ := by decide

theorem test_validate :
    validate dist500 0x62 0x33 = .ok ∧ validate badCsum 0x62 0x33 = .csumBad ∧
    validate ⟨0x62, 0x34, 0x09, 0xFF, 0xFF, 0x01, 0x00, 0x66, 0x38⟩ 0x62 0x33 = .pairBad ∧
    validate ⟨0x63, 0x33, 0x09, 0xFF, 0xFF, 0x01, 0xF4, 0x00, 0xAD⟩ 0x62 0x33 = .csumBad ∧
    validate ⟨0x62, 0x33, 0x00, 0xFF, 0xFF, 0x01, 0xF4, 0x00, 0xA4⟩ 0x62 0x33 = .ok := by decide

theorem test_decode_fields :
    fieldsOf ⟨0x62, 0x33, 0x09, 0x12, 0x34, 0xFF, 0xFF, 0x00, 0x7E⟩ = ⟨0x1234, 0xFFFF, 0x00⟩ := by decide

theorem test_classify :
    classify .config .ok 0x67 = .deviceRejected ∧ classify .dist .ok 0x00 = .success ∧
    classify .config .pairBad 0x66 = .responseError := by decide

/-! ### One step of each operation -/

/-- V-NOP-1 -/
theorem test_nop : after (.word 0x0000000000000000) (st .wait .auto [0x62]) =
    { st .wait .auto [0x62] with events := [.done] } := by decide

/-- V-RXB-1 -/
theorem test_rxb_stores : after (.word 0x1000000000000062) State.reset =
    { State.reset with q := [0x62], events := [.done] } := by decide

/-- V-RXB-3 -/
theorem test_rxb_completes :
    let t := after (.word 0x10000000000000AD)
      (waitFor 0x62 0x33 .none .dist [0x62, 0x33, 0x09, 0xFF, 0xFF, 0x01, 0xF4, 0x00])
    t.exst = .idle ∧ t.outcome = .success ∧ readReg t 1 = 0xFFFF01F4 ∧ t.lastValid = true ∧ t.q = [] ∧
      t.events = [.done, .exchDoneResp .success 0xFFFF 0x01F4 0x00] := by decide

/-- V-POLL-5 -/
theorem test_poll_samples :
    let t := after (.word 0x2000000000000000) (st .idle .auto dist500.bytes)
    t.q = [] ∧ readReg t 1 = 0xFFFF01F4 ∧ t.lastValid = true ∧ t.events = [.sample 0xFFFF 0x01F4] := by decide

/-- V-POLL-6 -/
theorem test_poll_discards_one_byte :
    let t := after (.word 0x2000000000000000) (st .idle .auto (badCsum.bytes ++ [0x62]))
    t.q = [0x33, 0x09, 0xFF, 0xFF, 0x01, 0xF4, 0x00, 0xAC, 0x62] ∧ t.events = [.discard 0x62] := by decide

/-- V-START-1 -/
theorem test_start :
    let t := after (.word 0x306233FFFF000000) State.reset
    readReg t 0 = 0x00000001 ∧ readReg t 4 = 0x00043362 ∧
      t.events = [.tx ⟨0x62, 0x33, 0x09, 0xFF, 0xFF, 0x00, 0x00, 0x00, 0x58⟩, .started] := by decide

/-- V-START-8 -/
theorem test_start_takes_stale_bytes :
    let t := after (.word 0x306233FFFF000000) (st .idle .manual dist500.bytes)
    t.exst = .idle ∧ t.q = [] ∧ t.events = [.tx ⟨0x62, 0x33, 0x09, 0xFF, 0xFF, 0x00, 0x00, 0x00, 0x58⟩, .started,
      .exchDoneResp .success 0xFFFF 0x01F4 0x00] := by decide

/-- P5, operation 5 -/
theorem test_startMan : (after (.word 0x316234FFFF000000) (st .idle .auto [])).events =
    [.tx ⟨0x62, 0x34, 0x09, 0xFF, 0xFF, 0x00, 0x00, 0x00, 0x5F⟩, .started] := by decide

/-- P2, operation 2: EXP is 0x00023462 -/
theorem test_startAuto : readReg (after (.word 0x326234FFFF010000) State.reset) 4 = 0x00023462 := by decide

/-- V-TMO-1 -/
theorem test_timeout :
    let t := after (.word 0x4000000000000000) (st .wait .manual [0x62, 0x33])
    t.exst = .idle ∧ t.outcome = .timeout ∧ t.q = [0x62, 0x33] ∧ t.events = [.exchDone .timeout] := by decide

/-- V-TXF-1 -/
theorem test_txfail :
    let t := after (.word 0x5000000000000000) (st .wait .manual [])
    t.exst = .idle ∧ t.outcome = .transportError ∧ t.events = [.exchDone .transportError] := by decide

/-- V-FL-1 -/
theorem test_flush : after (.word 0x6000000000000000) { st .wait .auto [0x62, 0x33] with ovr := true } =
    { st .wait .auto [] with events := [.done] } := by decide

/-- V-BR-1 -/
theorem test_brst :
    let t := after (.word 0x7000000000000000) { st .wait .auto [0x62] with ill := true, events := [.started] }
    t = { State.reset with events := [.started, .done] } ∧ readReg t 0 = 0 := by decide

/-- V-ILL-2 -/
theorem test_illegal_start : after (.word 0x336233FFFF000000) State.reset =
    { State.reset with ill := true, events := [.illegal 0x336233FFFF000000] } := by decide

/-! ### One step of each command: the frames of 95_test_vectors.md 2.9 -/

theorem test_resetHard : (after (.line (.resetHard .byte5 0xFFFF)) State.reset).events =
    [.tx ⟨0x62, 0x39, 0x09, 0xFF, 0xFF, 0xFE, 0x00, 0x00, 0xAC⟩, .started] := by decide

theorem test_resetSoft : (after (.line (.resetSoft .byte5 0xFFFF)) State.reset).events =
    [.tx ⟨0x62, 0x39, 0x09, 0xFF, 0xFF, 0xFD, 0x00, 0x00, 0xAF⟩, .started] := by decide

theorem test_setAddr : (after (.line (.setAddr 0xFFFF 0x1234)) State.reset).events =
    [.tx ⟨0x62, 0x32, 0x09, 0xFF, 0xFF, 0x12, 0x34, 0x00, 0x7F⟩, .started] := by decide

/-- P4, operations 2 and 5 -/
theorem test_setAddr_limits :
    after (.line (.setAddr 0xFFFF 0xFFFF)) State.reset =
      { State.reset with outcome := .paramError, events := [.rejected .paramError] } ∧
    (after (.line (.setAddr 0xFFFF 0xFFFE)) State.reset).events =
      [.tx ⟨0x62, 0x32, 0x09, 0xFF, 0xFF, 0xFF, 0xFE, 0x00, 0x58⟩, .started] := by decide

theorem test_setBaud : (after (.line (.setBaud 0xFFFF 0x09 0x00 0x00)) State.reset).events =
    [.tx ⟨0x62, 0x30, 0x09, 0xFF, 0xFF, 0x09, 0x00, 0x00, 0x52⟩, .started] := by decide

theorem test_setUpModeAuto : (after (.line (.setUpModeAuto 0xFFFF 0x01 0x00 0x00)) State.reset).events =
    [.tx ⟨0x62, 0x34, 0x09, 0xFF, 0xFF, 0x01, 0x00, 0x00, 0x5E⟩, .started] := by decide

/-- P5, the end of the run: EXP is 0x00013462 -/
theorem test_setUpModeMan :
    let t := after (.line (.setUpModeMan 0xFFFF 0x00 0x00 0x00)) (st .idle .auto [])
    readReg t 4 = 0x00013462 ∧
      t.events = [.tx ⟨0x62, 0x34, 0x09, 0xFF, 0xFF, 0x00, 0x00, 0x00, 0x5F⟩, .started] := by decide

theorem test_setUpInt : (after (.line (.setUpInt 0xFFFF 0x0A 0x00 0x00)) State.reset).events =
    [.tx ⟨0x62, 0x35, 0x09, 0xFF, 0xFF, 0x0A, 0x00, 0x00, 0x54⟩, .started] := by decide

theorem test_setCommA : (after (.line (.setCommA 0xFFFF 0x00 0x00 0x00)) State.reset).events =
    [.tx ⟨0x61, 0x30, 0x09, 0xFF, 0xFF, 0x00, 0x00, 0x00, 0x58⟩, .started] := by decide

theorem test_setCommB : (after (.line (.setCommB 0xFFFF 0x00 0x00 0x00)) State.reset).events =
    [.tx ⟨0x62, 0x31, 0x09, 0xFF, 0xFF, 0x00, 0x00, 0x00, 0x5A⟩, .started] := by decide

/-- V-START-7 -/
theorem test_setLed_in_auto : (after (.line (.setLed 0xFFFF 0x00 0x00 0x00)) (st .idle .auto [])).events =
    [.tx ⟨0x62, 0x37, 0x09, 0xFF, 0xFF, 0x00, 0x00, 0x00, 0x5C⟩, .started] := by decide

theorem test_setRelay : (after (.line (.setRelay 0xFFFF 0x00 0x00 0x00)) State.reset).events =
    [.tx ⟨0x62, 0x38, 0x09, 0xFF, 0xFF, 0x00, 0x00, 0x00, 0x53⟩, .started] := by decide

theorem test_readDist : (after (.line (.readDist 0xFFFF)) State.reset).events =
    [.tx ⟨0x62, 0x33, 0x09, 0xFF, 0xFF, 0x00, 0x00, 0x00, 0x58⟩, .started] := by decide

/-- P5, operation 4 -/
theorem test_readDist_in_auto : after (.line (.readDist 0xFFFF)) (st .idle .auto []) =
    { st .idle .auto [] with outcome := .modeConflict, events := [.rejected .modeConflict] } := by decide

/-! ### One step of each sensor frame -/

/-- V-CMP-1 -/
theorem test_respConfig_ack :
    let t := after (.line (.respConfig 0x62 0x37 0x09 0xFFFF 0x0000 0x66 0x3A)) (waitFor 0x62 0x37 .none .config [])
    t.exst = .idle ∧ readReg t 2 = 0xFFFF0000 ∧ readReg t 3 = 0x66 ∧
      t.events = List.replicate 9 .done ++ [.exchDoneResp .success 0xFFFF 0x0000 0x66] := by decide

/-- V-CMP-4: a rejected mode change leaves MODE. -/
theorem test_respConfig_rejected :
    let t := after (.line (.respConfig 0x62 0x34 0x09 0xFFFF 0x0100 0x00 0x5E)) (waitFor 0x62 0x34 .auto .config [])
    t.mode = .manual ∧ t.events = List.replicate 9 .done ++ [.exchDoneResp .deviceRejected 0xFFFF 0x0100 0x00] := by
  decide

/-- P1, the end of the run. -/
theorem test_frameDist_answers :
    let t := after (.line (.frameDist 0x09 0xFFFF 0x01F4 0x00 0xAD)) (waitFor 0x62 0x33 .none .dist [])
    readReg t 0 = 0x00000104 ∧ readReg t 1 = 0xFFFF01F4 ∧ readReg t 2 = 0xFFFF01F4 ∧ readReg t 5 = 0 := by decide

/-- P5, operation 6: a streamed frame reaches another exchange. -/
theorem test_frameDist_is_a_wrong_response :
    (after (.line (.frameDist 0x09 0xFFFF 0x01F4 0x00 0xAD)) (waitFor 0x62 0x34 .manual .config [])).events =
      List.replicate 9 .done ++ [.exchDone .responseError] := by decide

/-! ### Witnesses: the hypotheses of each statement can be met, each clause at a boundary of its range -/

/-- Eight bytes, the most that a waiting exchange holds (R31). -/
def eight : List Byte := dist500.bytes.take 8

/-- A queue at its capacity, whatever that is. -/
def full : List Byte := List.replicate Config.rxqDepth 0x00

theorem full_length : full.length = Config.rxqDepth := List.length_replicate

theorem witness_ResetLeavesEveryR46Value : ∃ rest,
    ({ st .wait .auto eight with port := [.resetInput] } : State).port = .resetInput :: rest := ⟨[], rfl⟩

theorem witness_BrstResetsAndKeepsTheHistory :
    (∃ t, exec .brst (st .wait .auto eight) = .next t) ∧
    ∃ (u : State) (rest : List PortItem), u.port = .resetInput :: rest ∧ { u with port := rest } = st .wait .auto eight :=
  ⟨⟨_, rfl⟩, { st .wait .auto eight with port := [.resetInput] }, [], rfl, rfl⟩

theorem witness_ResetInputResetsSilently : ∃ rest,
    ({ st .wait .auto eight with port := [.resetInput, .word 0] } : State).port = .resetInput :: rest := ⟨_, rfl⟩

theorem witness_StepRunsTheNextTransfer :
    (∃ rest, ({ st .idle .auto [] with port := [.word pollWord, .word 0] } : State).port = .word pollWord :: rest) ∧
    decodeOp pollWord = .ok .poll ∧
    (∃ rest, ({ st .idle .auto [] with port := [.line (.readDist 0xFFFF)] } : State).port =
      .line (.readDist 0xFFFF) :: rest) ∧
    (st .idle .auto []).port = [] := ⟨⟨_, rfl⟩, by decide, ⟨_, rfl⟩, rfl⟩

theorem witness_PlacedRowRunsNext :
    decodeTableWord 64 0x2000000000000000 = some .poll ∧
    decodeTableWord 72 0x623309FFFF00000058 = some (.readDist 0xFFFF) := by decide

theorem witness_WordsDecodeByTheTable :
    (0x10000000000000FF#64).extractLsb' 8 56 = 0x10000000000000#56 ∧
    (0x30FFFFFFFFFFFFFF#64).extractLsb' 56 8 = 0x30#8 ∧ (0x3100000000000000#64).extractLsb' 56 8 = 0x31#8 ∧
    (0x326234FFFF010000#64).extractLsb' 56 8 = 0x32#8 := by decide

theorem witness_IllegalWordsSetIllOnly :
    decodeOp 0x8000000000000000#64 = .error .reservedOp ∧ (st .wait .auto eight).Settled ∧
    step { st .wait .auto eight with port := [.word 0x8000000000000000] } =
      .next { st .wait .auto eight with ill := true, events := [.illegal 0x8000000000000000] } ∧
    ({ st .wait .auto eight with ill := true } : State).ill = true := ⟨by decide, by decide, rfl, rfl⟩

theorem witness_OperationWordsRoundTrip :
    (Instr.rxb 0xFF).isOperation = true ∧ decodeOp 0x10000000000000FF#64 = .ok (.rxb 0xFF) := by decide

theorem witness_CommandFramesRoundTrip :
    (Instr.setAddr 0xFFFF 0xFFFE).isOperation = false ∧
    startArgsOf (.setAddr 0xFFFF 0xFFFE) = some (setAddrArgs 0xFFFF 0xFFFE) ∧
    decodeCommand .manual ⟨0x62, 0x34, 0x09, 0xFF, 0xFF, 0x00, 0x00, 0x00, 0x5F⟩ =
      .ok (.setUpModeMan 0xFFFF 0x00 0x00 0x00) := by decide

theorem witness_SensorFramesRoundTrip :
    (Instr.respConfig 0x62 0x37 0x09 0xFFFF 0x0000 0x66 0x3A).wellFormed = true ∧
    sensorFrameOf (.respConfig 0x62 0x37 0x09 0xFFFF 0x0000 0x66 0x3A) = some ackLed := by decide

theorem witness_FrameBitsRoundTrip : 8 < 9 ∧ dist500.bytes[8]? = some 0xAD := by decide

theorem witness_NopRule : (st .wait .auto eight).Settled ∧ (st .wait .auto eight).exst = .wait := by decide

theorem witness_RxbRule :
    ((st .idle .manual eight).q.length < Config.rxqDepth ∧ (st .idle .manual eight).exst = .idle) ∧
    ((st .wait .manual (eight.take 7)).q.length < Config.rxqDepth ∧ (st .wait .manual (eight.take 7)).q.length < 8) ∧
    ((st .wait .manual eight).exst = .wait ∧ (st .wait .manual eight).q ++ [0xAD] = dist500.bytes) ∧
    Config.rxqDepth ≤ (st .idle .manual full).q.length ∧ (st .idle .manual full).Settled :=
  ⟨by decide, by decide, by decide, full_length.ge, fun h => by cases h⟩

theorem witness_PollRule :
    ((st .wait .auto eight).exst = .wait ∧ (st .wait .auto eight).q.length < 9) ∧
    ((st .idle .manual dist500.bytes).exst = .idle ∧ (st .idle .manual dist500.bytes).mode = .manual) ∧
    ((st .idle .auto eight).exst = .idle ∧ (st .idle .auto eight).mode = .auto ∧ (st .idle .auto eight).q.length < 9) ∧
    ((st .idle .auto dist500.bytes).q = dist500.bytes ++ [] ∧ validate dist500 0x62 0x33 = .ok) ∧
    (st .idle .auto badCsum.bytes).q = badCsum.bytes ++ [] ∧ validate badCsum 0x62 0x33 ≠ .ok := by decide

theorem witness_StartRule :
    ((st .wait .auto eight).exst = .wait ∧ (st .wait .auto eight).q.length < 9) ∧
    ((st .idle .auto []).exst = .idle ∧ (st .idle .auto []).mode = .auto) ∧
    0xFFFE < (cat16 0xFF 0xFF).toNat ∧
    (¬ ((0x62#8) = 0x62#8 ∧ (0x32#8) = 0x33#8 ∧ (st .idle .auto eight).mode = .auto) ∧
      ¬ ((0x62#8) = 0x62#8 ∧ (0x32#8) = 0x32#8 ∧ 0xFFFE < (cat16 0xFF 0xFE).toNat) ∧
      (st .idle .auto eight).q.length < 9) ∧
    (¬ ((0x62#8) = 0x62#8 ∧ (0x33#8) = 0x33#8 ∧ (st .idle .manual dist500.bytes).mode = .auto) ∧
      ¬ ((0x62#8) = 0x62#8 ∧ (0x33#8) = 0x32#8 ∧ 0xFFFE < (cat16 0x00 0x00).toNat) ∧
      (st .idle .manual dist500.bytes).q = dist500.bytes ++ []) := by decide

theorem witness_TimeoutRule_and_TxfailRule :
    (st .wait .auto eight).exst = .wait ∧ (st .idle .auto eight).exst = .idle := by decide

theorem witness_SettleCompletesTheExchange :
    ((st .idle .auto dist500.bytes).exst = .idle ∧ (st .wait .auto eight).q.length < 9) ∧
    (validate badCsum 0x62 0x33 = .csumBad ∧ validate dist500 0x62 0x37 = .pairBad) ∧
    (validate ⟨0x62, 0x37, 0x09, 0xFF, 0xFF, 0x00, 0x00, 0x67, 0x3B⟩ 0x62 0x37 = .ok ∧ (0x67#8) ≠ 0x66#8) ∧
    (validate ackLed 0x62 0x37 = .ok ∧ ackLed.status = 0x66#8) ∧
    let s := waitFor 0x62 0x33 .none .dist dist500.bytes
    s.exst = .wait ∧ s.q = dist500.bytes ++ [] ∧ validate dist500 s.expSync s.expCmd = .ok ∧ s.expKind = .dist := by
  decide

theorem witness_ClassifyRule : (0x67#8) ≠ 0x66#8 := by decide

theorem witness_ChecksumIgnoresOrder : [0x62#8, 0x33#8].Perm [0x33#8, 0x62#8] := .swap _ _ _

theorem witness_BitFlipsDetectedExactlyWhenOdd :
    validate dist500 0x62 0x33 = .ok ∧ 8 < 9 ∧ 7 < 8 ∧
    (Frame.mk 0 0 0 0 0 0 0 0 0x80).bytes = (List.replicate 9 0x00#8).set 8 (BitVec.twoPow 8 7) := by decide

theorem witness_EvenFlipsAndReorderingsPass :
    validate dist500 0x62 0x33 = .ok ∧
    ¬ oddFlips (Frame.mk 0 0 0 0 0 0x01 0x01 0 0).bytes ∧
    (dist500.bytes.take 8).Perm (Frame.bytes { dist500 with data0 := 0xF4, data1 := 0x01 } |>.take 8) ∧
    ({ dist500 with data0 := 0xF4, data1 := 0x01 } : Frame).checksum = dist500.checksum := by
  refine ⟨by decide, ?_, by decide, rfl⟩
  rintro ⟨j, hj, h⟩
  revert h
  interval_cases j <;> decide

theorem witness_commands_in_idle :
    (st .idle .auto eight).exst = .idle ∧ (st .idle .auto eight).q.length < 9 ∧
    (st .idle .manual eight).mode = .manual ∧ (st .idle .auto eight).mode = .auto ∧ (0xFFFE#16) ≠ 0xFFFF#16 := by
  decide

theorem witness_CommandsAreRefusedWhileBusy :
    startArgsOf (.readDist 0xFFFF) = some (readDistArgs 0xFFFF) ∧ (st .wait .auto eight).exst = .wait ∧
    (st .wait .auto eight).q.length < 9 := by decide

theorem witness_CommandsRunTheirStart : startArgsOf (.resetHard .byte7 0) = some (resetHardArgs .byte7 0) := rfl

theorem witness_ResetSelectorPositionOnlyMovesAByte :
    (after (.line (.resetHard .byte5 0)) State.reset).events[0]? ≠
      (after (.line (.resetHard .byte7 0)) State.reset).events[0]? := by decide

theorem witness_ConfigResponseIsDelivered :
    let s := waitFor 0x62 0x37 .none .config []
    (s.exst = .wait ∧ s.q = [] ∧ s.expKind = .config ∧ s.expSync = 0x62 ∧ s.expCmd = 0x37) ∧
    checksumOf (respConfigFrame 0x62 0x37 0x09 0xFFFF 0x0000 0x66 0x3B) ≠ 0x3B ∧
    checksumOf (respConfigFrame 0x62 0x37 0x09 0xFFFF 0x0000 0x66 0x3A) = 0x3A ∧
    checksumOf (respConfigFrame 0x62 0x37 0x09 0xFFFF 0x0000 0x00 0x5C) = 0x5C ∧ (0x00#8) ≠ 0x66#8 ∧
    (st .idle .auto []).exst = .idle ∧ (st .idle .auto []).q.length + 9 ≤ Config.rxqDepth := by decide

theorem witness_DistanceFrameIsDelivered :
    let s := waitFor 0x62 0x33 .none .dist []
    let u := waitFor 0x62 0x34 .manual .config []
    (s.exst = .wait ∧ s.q = [] ∧ s.expKind = .dist ∧ s.expSync = 0x62 ∧ s.expCmd = 0x33) ∧
    checksumOf (frameDistFrame 0x09 0xFFFF 0x01F4 0x00 0xAD) = 0xAD ∧
    (u.exst = .wait ∧ u.q = [] ∧ ¬ (u.expSync = 0x62 ∧ u.expCmd = 0x33)) ∧
    checksumOf (frameDistFrame 0x09 0xFFFF 0x01F4 0x00 0xAC) ≠ 0xAC ∧
    (st .idle .auto []).exst = .idle ∧ (st .idle .auto []).q.length + 9 ≤ Config.rxqDepth := by decide

theorem witness_LineRunsAsItsExpansion :
    ({ State.reset with port := [.line (.readDist 0xFFFF)] } : State).port = .line (.readDist 0xFFFF) :: [] := rfl

theorem witness_StepKeepsTheInvariant : (waitFor 0x62 0x33 .none .dist eight).Inv ∧
    ∃ t, step (waitFor 0x62 0x33 .none .dist eight) = .next t :=
  ⟨⟨by decide, by decide, by decide, by decide, by decide⟩, ⟨_, rfl⟩⟩

theorem witness_SettledAfterEveryTransfer :
    ({ st .wait .auto dist500.bytes with port := [.word 0] } : State).port ≠ [] ∧
    ∃ t, step { st .wait .auto dist500.bytes with port := [.word 0] } = .next t := ⟨by decide, _, rfl⟩

theorem witness_ExchangeStateTransitions :
    (State.reset.exst = .idle ∧ (after (.word 0x306233FFFF000000) State.reset).exst = .wait) ∧
    (st .wait .auto eight).exst = .wait ∧ (after (.word 0x4000000000000000) (st .wait .auto eight)).exst = .idle := by
  decide

theorem witness_ModeChangesOnlyWhenConfirmed :
    let s := waitFor 0x62 0x34 .auto .config [0x62, 0x34, 0x09, 0xFF, 0xFF, 0x01, 0x00, 0x66]
    s.Inv ∧ (after (.word 0x1000000000000038) s).mode ≠ s.mode :=
  ⟨⟨by decide, by decide, by decide, by decide, by decide⟩, by decide⟩

theorem witness_SampleChangesOnlyWhenMeasured :
    let s := st .idle .auto dist500.bytes
    let t := after (.word pollWord) s
    (t.lastAddr, t.lastDist, t.lastValid) ≠ (s.lastAddr, s.lastDist, s.lastValid) ∧
      ({ s with lastValid := true } : State).lastValid = true := by decide

theorem witness_ResponseChangesOnlyByCompletion :
    let s := waitFor 0x62 0x33 .none .dist eight
    let t := after (.word 0x10000000000000AD) s
    (t.respAddr, t.respData, t.respStatus) ≠ (s.respAddr, s.respData, s.respStatus) := by decide

theorem witness_StickyFlagsAreSetClearedAndOnlyReported :
    Config.rxqDepth ≤ (st .idle .auto full).q.length ∧
    nextFetched { State.reset with port := [.word 0x6000000000000000] } = some (.run .flush) ∧
    nextResets { State.reset with port := [.resetInput] } ∧
    ¬ nextResets { State.reset with port := [.word 0x8000000000000000] } :=
  ⟨full_length.ge, by decide, ⟨.resetInput, rfl, rfl⟩, by
    rintro ⟨f, h, hr⟩
    cases h
    revert hr
    decide⟩

theorem witness_EventsOfAnOperation_and_QueueIsFirstInFirstOut :
    let s : State := { st .wait .auto eight with port := [.word 0x10000000000000AD] }
    s.port = .word 0x10000000000000AD :: [] ∧ decodeOp 0x10000000000000AD#64 = .ok (.rxb 0xAD) ∧
      ∃ t, step s = .next t := ⟨rfl, by decide, _, rfl⟩

theorem witness_PollMakesProgress :
    let s : State := { st .idle .auto dist500.bytes with port := [.word pollWord, .word pollWord] }
    s.exst = .idle ∧ s.mode = .auto ∧ 9 ≤ s.q.length ∧ s.port = List.replicate 2 (.word pollWord) ++ [] := by decide

theorem witness_MinimalDiscard :
    let s : State := { st .idle .auto (0x00 :: dist500.bytes) with port := [.word pollWord, .word pollWord] }
    s.exst = .idle ∧ s.mode = .auto ∧ s.q = [0x00] ++ dist500.bytes ++ [] ∧ validate dist500 0x62 0x33 = .ok ∧
      (∀ k, k < [0x00#8].length → validWindow (s.q.drop k) = false) ∧
      s.port = List.replicate ([0x00#8].length + 1) (.word pollWord) ++ [] := by decide

theorem witness_RecoveryFromOneCorruptedFrame :
    let s : State := { st .idle .auto (dist500.bytes ++ (badCsum.bytes ++ (dist500.bytes ++ []))) with
      port := List.replicate 11 (.word pollWord) ++ [] }
    s.exst = .idle ∧ s.mode = .auto ∧ validate dist500 0x62 0x33 = .ok ∧ validate badCsum 0x62 0x33 ≠ .ok ∧
      ∀ j, j < 9 → 1 ≤ j → validWindow ((badCsum.bytes ++ (dist500.bytes ++ [])).drop j) = false := by decide

theorem witness_RecoveryFromInsertedOrDroppedBytes :
    let g : List Byte := [0xAA, 0xAA]
    let s : State := { st .idle .auto (dist500.bytes ++ (g ++ (dist500.bytes ++ []))) with
      port := List.replicate (g.length + 2) (.word pollWord) ++ [] }
    s.exst = .idle ∧ s.mode = .auto ∧ validate dist500 0x62 0x33 = .ok ∧
      ∀ j, j < g.length → validWindow ((g ++ (dist500.bytes ++ [])).drop j) = false := by decide

/-- The false lock of V-RS-4, at offset 7. -/
theorem witness_FalseLockTakesTheHeadOfTheNextFrame :
    let c : Frame := ⟨0x62, 0x33, 0x09, 0x00, 0x01, 0x01, 0x00, 0x62, 0x33⟩
    let v : Frame := ⟨0x62, 0x33, 0x09, 0x00, 0x01, 0x01, 0x09, 0x00, 0x51⟩
    let w : Frame := ⟨0x62, 0x33, 0x62, 0x33, 0x09, 0x00, 0x01, 0x01, 0x09⟩
    let s : State := { st .idle .auto (c.bytes ++ (v.bytes ++ [])) with
      port := List.replicate (7 + 1) (.word pollWord) ++ [] }
    s.exst = .idle ∧ s.mode = .auto ∧ 7 < 9 ∧ peek9 (s.q.drop 7) = some w ∧ w.sync = 0x62 ∧ w.cmd = 0x33 ∧
      checksumOf w = w.checksum ∧ ∀ j, j < 7 → validWindow (s.q.drop j) = false := by decide

theorem witness_WaitsWithoutAReport :
    let ws : List OpWord := List.replicate 8 0x1000000000000062
    let s : State := { st .wait .auto [] with port := ws.map .word ++ [] }
    s.exst = .wait ∧
      (∀ w ∈ ws, decodeOp w ≠ .ok .timeout ∧ decodeOp w ≠ .ok .txfail ∧ decodeOp w ≠ .ok .brst) ∧
      s.q.length + ws.countP (fun w => opField w == 0x1#4) < 9 :=
  ⟨rfl, fun w hw => by rw [List.eq_of_mem_replicate hw]; decide, by rw [List.countP_replicate]; decide⟩

theorem witness_NinthByteRacesTimeout :
    (st .wait .auto eight).exst = .wait ∧ (st .wait .auto eight).q ++ [0xAD] = dist500.bytes := by decide

theorem witness_RegisterMap :
    State.reset.q.length ≤ Config.rxqDepth ∧ 6 ≤ (6#8).toNat ∧ 6 ≤ (255#8).toNat := by decide

theorem witness_ReadsWithoutAValueFault :
    State.reset.lastValid = false ∧ ({ State.reset with lastValid := true } : State).lastValid = true ∧
    (({ State.reset with outcome := .deviceRejected } : State).exst = .idle ∧
      ({ State.reset with outcome := .deviceRejected } : State).outcome.code = 5#4) ∧
    ¬ (State.reset.exst = .idle ∧ (State.reset.outcome.code = 1#4 ∨ State.reset.outcome.code = 5#4)) := by decide

end Sys2Proof.Tests
end

section
/-! PROOFS. The family of 00_scope.md. Two RESET commands that place the selector at different bytes take the
same branch of START*; when it is the acceptance, the frame sent is all that tells the two states apart, and the
settle phase after it does not read the history. -/

namespace Sys2Proof.Machine

/-! ### The settle phase does not read the history -/

/-- A completion appends one event, chosen without reading the history, and changes nothing else by it. -/
theorem complete_withEvents (w : Frame) (s : State) :
    ∃ e, ∀ es, complete w { s with events := es } = { complete w s with events := es ++ [e] } := by
  by_cases h : validate w s.expSync s.expCmd = .ok
  · refine ⟨.exchDoneResp (classify s.expKind .ok w.status) (fieldsOf w).addr (fieldsOf w).data
      (fieldsOf w).status, fun es => ?_⟩
    rw [complete_of_ok (s := { s with events := es }) h, complete_of_ok h]
    split
    · simp only [recordSuccess_eq]; rfl
    · rfl
  · refine ⟨.exchDone (classify s.expKind (validate w s.expSync s.expCmd) w.status), fun es => ?_⟩
    rw [complete_of_bad (s := { s with events := es }) h, complete_of_bad h]
    rfl

/-- The settle phase appends the same events to whatever history it starts from (R131). -/
theorem settle_withEvents (s : State) :
    ∃ new, ∀ es, settle { s with events := es } = { settle s with events := es ++ new } := by
  rcases settle_cases s with ⟨hs, hshort⟩ | ⟨w, hwait, hq, hs⟩
  · refine ⟨[], fun es => ?_⟩
    rw [settle_of_settled (s := { s with events := es }) hshort, hs, List.append_nil]
  · obtain ⟨e, he⟩ := complete_withEvents w s
    refine ⟨[e], fun es => ?_⟩
    rw [settle_of_window (s := { s with events := es }) hwait hq, hs, he]

/-! ### States that differ in sent frames only -/

/-- The states differ at most in the frames of their Tx events, which stand at the same places. -/
def AgreeButTxFrames (t t' : State) : Prop :=
  { t with events := t'.events } = t' ∧ t.events.length = t'.events.length ∧
    ∀ k : Nat, t.events[k]? ≠ t'.events[k]? → ∃ f g, t.events[k]? = some (.tx f) ∧ t'.events[k]? = some (.tx g)

theorem AgreeButTxFrames.refl (t : State) : AgreeButTxFrames t t :=
  ⟨rfl, rfl, fun _ h => absurd rfl h⟩

/-- A history with one Tx event's frame replaced. -/
theorem agreeButTxFrames_of_events {t : State} {f : Frame} {before later : List Event}
    (ht : t.events = before ++ .tx f :: later) (g : Frame) :
    AgreeButTxFrames t { t with events := before ++ .tx g :: later } := by
  refine ⟨rfl, by simp [ht], fun k hk => ⟨f, g, ?_⟩⟩
  have hplace : k = before.length := by
    by_contra hne
    apply hk
    rw [ht]
    rcases Nat.lt_or_gt_of_ne hne with hlt | hgt
    · simp [List.getElem?_append_left hlt]
    · obtain ⟨j, rfl⟩ := Nat.exists_eq_add_of_lt hgt
      simp [List.getElem?_append_right, Nat.add_assoc]
  simp [hplace, ht]

/-- The settle phase keeps a difference in one Tx event's frame at that event. -/
theorem settle_agreeButTxFrames {s : State} {f : Frame} {before later : List Event}
    (hs : s.events = before ++ .tx f :: later) (g : Frame) :
    AgreeButTxFrames (settle s) (settle { s with events := before ++ .tx g :: later }) := by
  obtain ⟨new, hnew⟩ := settle_withEvents s
  have hevents : (settle s).events = s.events ++ new := congrArg State.events (hnew s.events)
  rw [hnew (before ++ .tx g :: later), List.append_assoc, List.cons_append]
  exact agreeButTxFrames_of_events (by rw [hevents, hs, List.append_assoc, List.cons_append]) g

/-! ### START* on operands that differ in address and payload only -/

/-- An accepted START* leaves the opened exchange of R135. -/
theorem acceptStart_eq_opened (a : StartArgs) (s : State) :
    acceptStart a s = opened s a.mreq a.sync a.cmd (commandFrame a) := by
  simp [acceptStart, opened, emit, openExchange, kindOf]

/-- Exchanges opened with different frames differ in the Tx event. -/
theorem opened_withFrame (s : State) (m : Mreq) (sync cmd : Byte) (f g : Frame) :
    opened s m sync cmd g = { opened s m sync cmd f with events := s.events ++ [.tx g, .started] } := rfl

theorem settle_opened_agree (s : State) (m : Mreq) (sync cmd : Byte) (f g : Frame) :
    AgreeButTxFrames (settle (opened s m sync cmd f)) (settle (opened s m sync cmd g)) := by
  have hevents : (opened s m sync cmd f).events = s.events ++ [.tx f, .started] := rfl
  rw [opened_withFrame s m sync cmd f g]
  exact settle_agreeButTxFrames hevents g

/-- Outside SetAddress, whose payload is checked, START* reads of its operands the mode request and the pair;
the rest reaches the frame sent only (R135). -/
theorem startMain_of_not_setAddress {a : StartArgs} (s : State)
    (hpair : isSetAddressPair a.sync a.cmd = false) :
    startMain a s =
      if s.exst = .wait then emit (.rejected .busy) s
      else if kindOf a.sync a.cmd = .dist ∧ s.mode = .auto then refuseStart .modeConflict s
      else opened s a.mreq a.sync a.cmd (commandFrame a) := by
  simp only [startMain, hpair, Bool.false_eq_true, false_and, if_false, acceptStart_eq_opened]

/-- Two START* with the same mode request and pair, not SetAddress's, differ after the step in the frame sent. -/
theorem settle_startMain_agree {a b : StartArgs} (s : State) (hmreq : a.mreq = b.mreq) (hsync : a.sync = b.sync)
    (hcmd : a.cmd = b.cmd) (hpair : isSetAddressPair b.sync b.cmd = false) :
    AgreeButTxFrames (settle (startMain a s)) (settle (startMain b s)) := by
  have hpairA : isSetAddressPair a.sync a.cmd = false := by rw [hsync, hcmd, hpair]
  rw [startMain_of_not_setAddress s hpairA, startMain_of_not_setAddress s hpair, hmreq, hsync, hcmd]
  split
  case isTrue => exact .refl _
  case isFalse =>
    split
    case isTrue => exact .refl _
    case isFalse => exact settle_opened_agree ..

/-! ### The RESET commands -/

/-- The selector and its position are operands of the payload (R171, R172). -/
theorem resetArgs_request_and_pair (sel : Byte) (pos : SelPos) (addr : Half) :
    (resetArgs sel pos addr).mreq = .none ∧ (resetArgs sel pos addr).sync = 0x62#8 ∧
      (resetArgs sel pos addr).cmd = 0x39#8 := by
  cases pos <;> exact ⟨rfl, rfl, rfl⟩

/-- START* on a selector at two positions. -/
theorem settle_resetArgs_agree (sel : Byte) (p p' : SelPos) (addr : Half) (s : State) :
    AgreeButTxFrames (settle (startMain (resetArgs sel p addr) s)) (settle (startMain (resetArgs sel p' addr) s)) := by
  obtain ⟨hmreq, hsync, hcmd⟩ := resetArgs_request_and_pair sel p addr
  obtain ⟨hmreq', hsync', hcmd'⟩ := resetArgs_request_and_pair sel p' addr
  exact settle_startMain_agree s (hmreq.trans hmreq'.symm) (hsync.trans hsync'.symm) (hcmd.trans hcmd'.symm)
    (by rw [hsync', hcmd']; rfl)

/-- Settles O35: both RESET commands run START* on the selector's operands, and START* passes their payload to
the frame sent only. -/
theorem resetSelectorPositionOnlyMovesAByte : Obligations.ResetSelectorPositionOnlyMovesAByte := by
  intro p p' addr s
  exact ⟨⟨_, _, exec_of_startArgs s rfl, exec_of_startArgs s rfl, settle_resetArgs_agree 0xFE#8 p p' addr s⟩,
    ⟨_, _, exec_of_startArgs s rfl, exec_of_startArgs s rfl, settle_resetArgs_agree 0xFD#8 p p' addr s⟩⟩

end Sys2Proof.Machine
end

section
/-! PROOFS. The family of 10_state.md, its first layer: every branch of every main phase as a relation between two
states, what the settle phase and a delivery of bytes add to it, and from these what one step can do. The later
sections of the family split along these cases and do not open the operations again. -/

namespace Sys2Proof.Machine

/-! ### The branches of the main phases -/

/-- One transfer's main phase, branch by branch: R133 to R141. -/
inductive MainPhase : Fetched → State → State → Prop
  | nop (s : State) : MainPhase (.run .nop) s (emit .done s)
  | stored (b : Byte) (s : State) (hroom : s.q.length < Config.rxqDepth) :
      MainPhase (.run (.rxb b)) s (emit .done (setQueue (s.q ++ [b]) s))
  | overrun (b : Byte) (s : State) (hfull : Config.rxqDepth ≤ s.q.length) :
      MainPhase (.run (.rxb b)) s (emit (.overrun b) (setOvr s))
  | unpolled (e : Event) (s : State)
      (he : e = .pollBusy ∧ s.exst = .wait ∨ e = .pollNotAuto ∧ s.exst = .idle ∧ s.mode = .manual ∨
        e = .pollNone ∧ s.exst = .idle ∧ s.mode = .auto ∧ s.q.length < 9) :
      MainPhase (.run .poll) s (emit e s)
  | sampled (w : Frame) (s : State) (hidle : s.exst = .idle) (hauto : s.mode = .auto)
      (hq : s.q = w.bytes ++ s.q.drop 9) (hvalid : validate w 0x62#8 0x33#8 = .ok) :
      MainPhase (.run .poll) s (emit (.sample (fieldsOf w).addr (fieldsOf w).data)
        (storeSample (fieldsOf w) (setQueue (s.q.drop 9) s)))
  | discarded (w : Frame) (s : State) (hidle : s.exst = .idle) (hauto : s.mode = .auto)
      (hq : s.q = w.bytes ++ s.q.drop 9) (hinvalid : validate w 0x62#8 0x33#8 ≠ .ok) :
      MainPhase (.run .poll) s (emit (.discard w.sync) (setQueue (s.q.drop 1) s))
  | busy {i : Instr} {a : StartArgs} (ha : startArgsOf i = some a) (s : State) (hwait : s.exst = .wait) :
      MainPhase (.run i) s (emit (.rejected .busy) s)
  | conflict {i : Instr} {a : StartArgs} (ha : startArgsOf i = some a) (s : State) (hidle : s.exst = .idle)
      (hkind : kindOf a.sync a.cmd = .dist) (hauto : s.mode = .auto) :
      MainPhase (.run i) s (refuseStart .modeConflict s)
  | badParam {i : Instr} {a : StartArgs} (ha : startArgsOf i = some a) (s : State) (hidle : s.exst = .idle)
      (hmode : ¬ (kindOf a.sync a.cmd = .dist ∧ s.mode = .auto)) (hpair : isSetAddressPair a.sync a.cmd = true)
      (haddr : Config.addrMax < cat16 a.p0 a.p1) :
      MainPhase (.run i) s (refuseStart .paramError s)
  | accepted {i : Instr} {a : StartArgs} (ha : startArgsOf i = some a) (s : State) (hidle : s.exst = .idle)
      (hmode : ¬ (kindOf a.sync a.cmd = .dist ∧ s.mode = .auto))
      (hparam : ¬ (isSetAddressPair a.sync a.cmd = true ∧ Config.addrMax < cat16 a.p0 a.p1)) :
      MainPhase (.run i) s (acceptStart a s)
  | reported {i : Instr} {o : OutcomeCode} (s : State)
      (hi : i = .timeout ∧ o = .timeout ∨ i = .txfail ∧ o = .transportError) (hwait : s.exst = .wait) :
      MainPhase (.run i) s (emit (.exchDone o) (endExchange o s))
  | ignored {i : Instr} (s : State) (hi : i = .timeout ∨ i = .txfail) (hidle : s.exst = .idle) :
      MainPhase (.run i) s (emit .ignored s)
  | flushed (s : State) : MainPhase (.run .flush) s (flushMain s)
  | reset (s : State) : MainPhase (.run .brst) s (brstMain s)
  | illegal (w : OpWord) (s : State) : MainPhase (.illegal w) s (illegalMain w s)

variable {s t u m : State} {f : Fetched}

theorem mainPhase_rxb (b : Byte) (s : State) : MainPhase (.run (.rxb b)) s (rxbMain b s) := by
  rcases rxbMain_cases b s with ⟨hroom, h⟩ | ⟨hfull, h⟩ <;> rw [h]
  · exact .stored b s hroom
  · exact .overrun b s hfull

theorem mainPhase_poll (s : State) : MainPhase (.run .poll) s (pollMain s) := by
  rcases pollMain_cases s with ⟨hwait, h⟩ | ⟨hidle, hmanual, h⟩ | ⟨hidle, hauto, hshort, h⟩ |
    ⟨w, hidle, hauto, hq, hvalid, h⟩ | ⟨w, hidle, hauto, hq, hinvalid, h⟩ <;> rw [h]
  · exact .unpolled _ s (.inl ⟨rfl, hwait⟩)
  · exact .unpolled _ s (.inr (.inl ⟨rfl, hidle, hmanual⟩))
  · exact .unpolled _ s (.inr (.inr ⟨rfl, hidle, hauto, hshort⟩))
  · exact .sampled w s hidle hauto hq hvalid
  · exact .discarded w s hidle hauto hq hinvalid

theorem mainPhase_start {i : Instr} {a : StartArgs} (ha : startArgsOf i = some a) (s : State) :
    MainPhase (.run i) s (startMain a s) := by
  rcases startMain_cases a s with ⟨hwait, h⟩ | ⟨hidle, hkind, hauto, h⟩ | ⟨hidle, hmode, hpair, haddr, h⟩ |
    ⟨hidle, hmode, hparam, h⟩ <;> rw [h]
  · exact .busy ha s hwait
  · exact .conflict ha s hidle hkind hauto
  · exact .badParam ha s hidle hmode hpair haddr
  · exact .accepted ha s hidle hmode hparam

theorem mainPhase_report {i : Instr} {o : OutcomeCode}
    (hi : i = .timeout ∧ o = .timeout ∨ i = .txfail ∧ o = .transportError) (s : State) :
    MainPhase (.run i) s (reportMain o s) := by
  rcases reportMain_cases o s with ⟨hwait, h⟩ | ⟨hidle, h⟩ <;> rw [h]
  · exact .reported s hi hwait
  · exact .ignored s (hi.imp And.left And.left) hidle

/-! ### One transfer -/

/-- What a transfer does: a main phase and the settle phase, a reset, or the delivery of a sensor frame. -/
inductive Transfer : Fetched → State → State → Prop
  | operation {f : Fetched} {s m : State} (h : MainPhase f s m) : Transfer f s (settle m)
  | resetInput (s : State) : Transfer .resetInput s (resetState s)
  | sensorFrame {i : Instr} {g : Frame} (h : sensorFrameOf i = some g) (s : State) :
      Transfer (.run i) s (receive g.bytes s)

theorem exec_transfer (i : Instr) (s : State) : ∃ t, exec i s = .next t ∧ Transfer (.run i) s t := by
  rcases instr_cases i with rfl | ⟨b, rfl⟩ | rfl | rfl | rfl | rfl | rfl | ⟨a, ha⟩ | ⟨g, hg⟩
  · exact ⟨_, rfl, .operation (.nop s)⟩
  · exact ⟨_, rfl, .operation (mainPhase_rxb b s)⟩
  · exact ⟨_, rfl, .operation (mainPhase_poll s)⟩
  · exact ⟨_, rfl, .operation (mainPhase_report (.inl ⟨rfl, rfl⟩) s)⟩
  · exact ⟨_, rfl, .operation (mainPhase_report (.inr ⟨rfl, rfl⟩) s)⟩
  · exact ⟨_, rfl, .operation (.flushed s)⟩
  · exact ⟨_, rfl, .operation (.reset s)⟩
  · exact ⟨_, exec_of_startArgs s ha, .operation (mainPhase_start ha s)⟩
  · exact ⟨_, exec_of_sensorFrame s hg, .sensorFrame hg s⟩

theorem runFetched_transfer (f : Fetched) (s : State) : ∃ t, runFetched f s = .next t ∧ Transfer f s t := by
  cases f with
  | run i => exact exec_transfer i s
  | illegal w => exact ⟨_, rfl, .operation (.illegal w s)⟩
  | resetInput => exact ⟨_, rfl, .resetInput s⟩

theorem transfer_of_step {item : PortItem} {rest : List PortItem} (hport : s.port = item :: rest)
    (h : step s = .next t) : Transfer (fetchItem item) (setPort rest s) t := by
  obtain ⟨t', ht', htr⟩ := runFetched_transfer (fetchItem item) (setPort rest s)
  rw [step_cons s hport, ht'] at h
  cases h
  exact htr

theorem nextFetched_cons {item : PortItem} {rest : List PortItem} (hport : s.port = item :: rest) :
    nextFetched s = some (fetchItem item) := by
  simp [nextFetched, hport]

theorem nextFetched_nil (hport : s.port = []) : nextFetched s = none := by
  simp [nextFetched, hport]

/-- A step finds the port empty and changes nothing, or does what the next transfer does. -/
theorem step_cases (h : step s = .next t) :
    (nextFetched s = none ∧ t = s) ∨
      ∃ f rest, nextFetched s = some f ∧ Transfer f (setPort rest s) t := by
  cases hport : s.port with
  | nil =>
    rw [step_nil s hport] at h
    cases h
    exact .inl ⟨nextFetched_nil hport, rfl⟩
  | cons item rest => exact .inr ⟨_, rest, nextFetched_cons hport, transfer_of_step hport h⟩

theorem nextResets_iff (h : nextFetched s = some f) : nextResets s ↔ f.resets = true := by
  simp [nextResets, h]

theorem not_nextResets_of_none (h : nextFetched s = none) : ¬ nextResets s := by
  simp [nextResets, h]

/-! ### The history and OVR -/

/-- The history grew at its end, and OVR was set exactly by an Overrun among the new events (R28). -/
def OvrReported (s t : State) : Prop :=
  ∃ new, t.events = s.events ++ new ∧ (t.ovr = true ↔ s.ovr = true ∨ ∃ b, .overrun b ∈ new)

theorem newEvents_of_append {new : List Event} (h : t.events = s.events ++ new) : newEvents s t = new := by
  simp [newEvents, h]

theorem OvrReported.refl (s : State) : OvrReported s s := ⟨[], by simp⟩

theorem OvrReported.trans (hst : OvrReported s t) (htu : OvrReported t u) : OvrReported s u := by
  obtain ⟨new, hnew, hovr⟩ := hst
  obtain ⟨new', hnew', hovr'⟩ := htu
  refine ⟨new ++ new', by rw [hnew', hnew, List.append_assoc], ?_⟩
  simp only [hovr', hovr, List.mem_append, exists_or, or_assoc]

theorem OvrReported.history (h : OvrReported s t) : s.events <+: t.events := by
  obtain ⟨new, hnew, -⟩ := h
  exact ⟨new, hnew.symm⟩

/-- Events of the later part of a step are events of the step. -/
theorem mem_newEvents_of_later {e : Event} (hsm : s.events <+: m.events) (he : e ∈ newEvents m t) :
    e ∈ newEvents s t :=
  List.drop_subset_drop_left _ hsm.length_le he

/-- An event that was appended, and later ones after it, is new. -/
theorem mem_newEvents_of_appended {e : Event} (hsm : s.events <+: m.events) (he : u.events = m.events ++ [e])
    (hut : u.events <+: t.events) : e ∈ newEvents s t := by
  obtain ⟨new, hnew⟩ := hsm
  obtain ⟨new', hnew'⟩ := hut
  rw [newEvents_of_append (new := new ++ [e] ++ new') (by rw [← hnew', he, ← hnew]; simp)]
  simp

theorem complete_history (w : Frame) (s : State) : s.events <+: (complete w s).events := by
  rcases complete_events w s with ⟨o, he⟩ | ⟨o, a, d, st, he⟩ <;> exact ⟨_, he.symm⟩

theorem ovrReported_complete (w : Frame) (s : State) : OvrReported s (complete w s) := by
  obtain ⟨-, -, -, -, -, -, -, hovr, -, -⟩ := complete_frame w s
  rcases complete_events w s with ⟨o, he⟩ | ⟨o, a, d, st, he⟩
  · exact ⟨_, he, by simp [hovr]⟩
  · exact ⟨_, he, by simp [hovr]⟩

/-- Every branch of a main phase reports an overrun exactly when it sets OVR, but FLUSH and BRST clear OVR. -/
theorem ovrReported_of_mainPhase (h : MainPhase f s m) (hflush : f ≠ .run .flush) (hreset : f.resets = false) :
    OvrReported s m := by
  cases h with
  | nop => exact ⟨[.done], by simp⟩
  | stored b => exact ⟨[.done], by simp⟩
  | overrun b => exact ⟨[.overrun b], by simp⟩
  | unpolled e _ he => exact ⟨[e], by rcases he with ⟨rfl, -⟩ | ⟨rfl, -⟩ | ⟨rfl, -⟩ <;> simp⟩
  | sampled w => exact ⟨[.sample (fieldsOf w).addr (fieldsOf w).data], by simp⟩
  | discarded w => exact ⟨[.discard w.sync], by simp⟩
  | busy => exact ⟨[.rejected .busy], by simp⟩
  | conflict => exact ⟨[.rejected .modeConflict], by simp [refuseStart]⟩
  | badParam => exact ⟨[.rejected .paramError], by simp [refuseStart]⟩
  | @accepted _ a => exact ⟨[.tx (commandFrame a), .started], by simp [acceptStart]⟩
  | @reported _ o => exact ⟨[.exchDone o], by simp⟩
  | ignored => exact ⟨[.ignored], by simp⟩
  | flushed => exact absurd rfl hflush
  | reset => exact absurd hreset (by decide)
  | illegal w => exact ⟨[.illegal w], by simp [illegalMain]⟩

/-- Every branch of a main phase adds to the history (R44). -/
theorem mainPhase_history (h : MainPhase f s m) : s.events <+: m.events := by
  cases h with
  | accepted ha => exact ⟨[.tx _, .started], by simp [acceptStart]; rfl⟩
  | nop | stored | overrun | unpolled | sampled | discarded | busy | conflict | badParam | reported | ignored
  | flushed | reset | illegal => exact List.prefix_append _ _

/-! ### Delivered bytes -/

/-- What the serial receiver's bytes change while no exchange completes: the queue, OVR and the history. -/
def Received (s t : State) : Prop :=
  (∃ q ovr events, t = { s with q := q, ovr := ovr, events := events }) ∧ OvrReported s t

theorem Received.refl (s : State) : Received s s := ⟨⟨s.q, s.ovr, s.events, rfl⟩, .refl s⟩

theorem Received.trans (hst : Received s t) (htu : Received t u) : Received s u := by
  obtain ⟨⟨_, _, _, rfl⟩, hovr⟩ := hst
  obtain ⟨⟨q, ovr, events, rfl⟩, hovr'⟩ := htu
  exact ⟨⟨q, ovr, events, rfl⟩, hovr.trans hovr'⟩

theorem received_rxbMain (b : Byte) (s : State) : Received s (rxbMain b s) := by
  refine ⟨?_, ovrReported_of_mainPhase (mainPhase_rxb b s) (by simp) rfl⟩
  rcases rxbMain_cases b s with ⟨_, h⟩ | ⟨_, h⟩ <;> rw [h]
  · exact ⟨s.q ++ [b], s.ovr, s.events ++ [.done], rfl⟩
  · exact ⟨s.q, true, s.events ++ [.overrun b], rfl⟩

/-- From `s` the receiver's bytes came in, and at most one waiting exchange completed among them. -/
def Completes (s t : State) : Prop :=
  Received s t ∨ ∃ u w, Received s u ∧ u.exst = .wait ∧ Received (complete w u) t

theorem completes_settle (m : State) : Completes m (settle m) := by
  rcases settle_cases m with ⟨h, -⟩ | ⟨w, hwait, -, h⟩ <;> rw [h]
  · exact .inl (.refl m)
  · exact .inr ⟨m, w, .refl m, hwait, .refl _⟩

/-- After an exchange's end the bytes stay in the queue. -/
theorem received_receive_of_idle (bs : List Byte) : ∀ s : State, s.exst = .idle → Received s (receive bs s) := by
  induction bs with
  | nil => exact fun s _ => .refl s
  | cons b bs ih =>
    intro s hidle
    have hr : Received s (rxbMain b s) := received_rxbMain b s
    have hidle' : (rxbMain b s).exst = .idle := by
      obtain ⟨⟨_, _, _, h⟩, -⟩ := hr
      rw [h]; exact hidle
    rw [receive_cons, settle_of_idle hidle']
    exact hr.trans (ih _ hidle')

/-- A delivery completes the waiting exchange at one byte or not at all. -/
theorem completes_receive (bs : List Byte) : ∀ s : State, Completes s (receive bs s) := by
  induction bs with
  | nil => exact fun s => .inl (.refl s)
  | cons b bs ih =>
    intro s
    have hr : Received s (rxbMain b s) := received_rxbMain b s
    rw [receive_cons]
    rcases settle_cases (rxbMain b s) with ⟨h, -⟩ | ⟨w, hwait, -, h⟩ <;> rw [h]
    · rcases ih (rxbMain b s) with h' | ⟨u, w, hu, hwait, ht⟩
      · exact .inl (hr.trans h')
      · exact .inr ⟨u, w, hr.trans hu, hwait, ht⟩
    · exact .inr ⟨_, w, hr, hwait, received_receive_of_idle bs _ (complete_frame w _).1⟩

theorem Completes.ovrReported (h : Completes s t) : OvrReported s t := by
  rcases h with ⟨-, h⟩ | ⟨u, w, ⟨-, hu⟩, -, -, ht⟩
  · exact h
  · exact (hu.trans (ovrReported_complete w u)).trans ht

/-- In IDLE there is no exchange to complete. -/
theorem Completes.received (h : Completes s t) (hidle : s.exst = .idle) : Received s t := by
  rcases h with h | ⟨u, w, ⟨⟨_, _, _, rfl⟩, -⟩, hwait, -⟩
  · exact h
  · exact absurd (hidle.symm.trans hwait) (by simp)

/-- A reset leaves the named reset state, with Done after BRST. -/
theorem Transfer.of_resets (h : Transfer f s t) (hf : f.resets = true) :
    t = resetState s ∨ t = emit .done (resetState s) := by
  cases h with
  | operation hm =>
    cases hm with
    | reset => exact .inr (settle_of_idle (resetState_exst s))
    | busy ha | conflict ha | badParam ha | accepted ha =>
      obtain rfl := eq_of_beq hf
      cases ha
    | reported _ hi => rcases hi with ⟨rfl, -⟩ | ⟨rfl, -⟩ <;> exact absurd hf (by decide)
    | ignored _ hi => rcases hi with rfl | rfl <;> exact absurd hf (by decide)
    | nop | unpolled | sampled | discarded | flushed => exact absurd hf (by decide)
    | stored | overrun | illegal => exact absurd hf (by simp [Fetched.resets])
  | resetInput => exact .inl rfl
  | sensorFrame hg =>
    obtain rfl := eq_of_beq hf
    cases hg

/-- A transfer that is no reset: a main phase, or none for a sensor frame, then at most one completion. -/
theorem Transfer.completes (h : Transfer f s t) (hf : f.resets = false) :
    ∃ m, (m = s ∨ MainPhase f s m) ∧ Completes m t := by
  cases h with
  | operation hm => exact ⟨_, .inr hm, completes_settle _⟩
  | resetInput => exact absurd hf (by decide)
  | sensorFrame hg => exact ⟨s, .inl rfl, completes_receive _ s⟩

end Sys2Proof.Machine
end

section
/-! PROOFS. The family of 10_state.md: the reset values, the invariant of every run, and R31. -/

namespace Sys2Proof.Machine

variable {s t m : State} {f : Fetched}

/-! ### The reset values -/

theorem resetState_hasResetValues (s : State) : (resetState s).HasResetValues := by
  simp [State.HasResetValues]

/-- BRST leaves IDLE, so that its settle phase does nothing. -/
theorem exec_brst_eq (s : State) : exec .brst s = .next (emit .done (resetState s)) := by
  rw [exec_brst, brstMain, settle_of_idle (emit_exst (resetState s) .done)]

/-- Settles O1: BRST and the reset input both leave the named reset state. -/
theorem resetLeavesEveryR46Value : Obligations.ResetLeavesEveryR46Value := by
  refine ⟨?_, fun s => ⟨_, exec_brst_eq s, resetState_hasResetValues s⟩, fun s rest hport =>
    ⟨_, step_cons s hport, resetState_hasResetValues _⟩⟩
  exact resetState_hasResetValues State.reset

/-! ### The invariant -/

/-- The invariant without R31, which a main phase can break until the settle phase restores it. -/
structure State.Coherent (s : State) : Prop where
  bounded : s.q.length ≤ Config.rxqDepth
  pending : s.exst = .wait → s.outcome = .none
  notBusy : s.outcome ≠ .busy
  kind : s.expKind = kindOf s.expSync s.expCmd

theorem State.Inv.coherent (h : s.Inv) : s.Coherent := ⟨h.bounded, h.pending, h.notBusy, h.kind⟩

theorem State.Coherent.inv (h : s.Coherent) (hsettled : s.Settled) : s.Inv :=
  ⟨hsettled, h.bounded, h.pending, h.notBusy, h.kind⟩

theorem State.Coherent.emit (h : s.Coherent) (e : Event) : (emit e s).Coherent :=
  ⟨h.bounded, h.pending, h.notBusy, h.kind⟩

theorem resetState_inv (s : State) : (resetState s).Inv :=
  ⟨by simp [State.Settled], by simp, by simp, by simp, rfl⟩

/-- Settles O39: a reset state. -/
theorem resetMeetsTheInvariant : Obligations.ResetMeetsTheInvariant := resetState_inv State.reset

theorem mainPhase_coherent (h : MainPhase f s m) (hs : s.Coherent) : m.Coherent := by
  obtain ⟨hbounded, hpending, hnotBusy, hkind⟩ := hs
  cases h with
  | nop | overrun | unpolled | busy | ignored | illegal => exact ⟨hbounded, hpending, hnotBusy, hkind⟩
  | stored b _ hroom => exact ⟨by simpa using hroom, hpending, hnotBusy, hkind⟩
  | sampled | discarded => exact ⟨by simp; omega, hpending, hnotBusy, hkind⟩
  | conflict _ _ hidle | badParam _ _ hidle =>
    exact ⟨hbounded, by simp [refuseStart, hidle], by simp [refuseStart], hkind⟩
  | accepted => exact ⟨hbounded, by simp [acceptStart], by simp [acceptStart], rfl⟩
  | reported _ hi =>
    exact ⟨hbounded, by simp, by rcases hi with ⟨-, rfl⟩ | ⟨-, rfl⟩ <;> simp, hkind⟩
  | flushed => exact ⟨by simp [flushMain], hpending, hnotBusy, hkind⟩
  | reset => exact (resetState_inv s).coherent.emit .done

/-- A completion ends in IDLE with an outcome of Classify, which is never BUSY. -/
theorem complete_coherent (w : Frame) (hs : s.Coherent) : (complete w s).Coherent := by
  obtain ⟨hidle, hq, houtcome, hsync, hcmd, -, hkind, -, -, -⟩ := complete_frame w s
  refine ⟨?_, by simp [hidle], ?_, by rw [hkind, hsync, hcmd, hs.kind]⟩
  · rw [hq, List.length_drop]
    exact (Nat.sub_le _ _).trans hs.bounded
  · rw [houtcome]
    rcases classify_cases s.expKind (validate w s.expSync s.expCmd) w.status with h | h | h | h <;> simp [h]

theorem settle_inv (hs : s.Coherent) : (settle s).Inv := by
  refine State.Coherent.inv ?_ (settle_settled s)
  rcases settle_cases s with ⟨h, -⟩ | ⟨w, -, -, h⟩ <;> rw [h]
  · exact hs
  · exact complete_coherent w hs

theorem receive_inv (bs : List Byte) (hs : s.Inv) : (receive bs s).Inv :=
  receive_induction (fun b _ h => settle_inv (mainPhase_coherent (mainPhase_rxb b _) h.coherent)) bs s hs

theorem transfer_inv (h : Transfer f s t) (hs : s.Inv) : t.Inv := by
  cases h with
  | operation hm => exact settle_inv (mainPhase_coherent hm hs.coherent)
  | resetInput => exact resetState_inv s
  | sensorFrame => exact receive_inv _ hs

/-- Settles O40: every main phase keeps the invariant but for R31, and the settle phase restores R31. -/
theorem stepKeepsTheInvariant : Obligations.StepKeepsTheInvariant := by
  intro s t hs h
  rcases step_cases h with ⟨-, rfl⟩ | ⟨f, rest, -, htr⟩
  · exact hs
  · exact transfer_inv htr ⟨hs.settled, hs.bounded, hs.pending, hs.notBusy, hs.kind⟩

/-- The last byte's settle phase settles the state, whatever stood before. -/
theorem receive_bytes_settled (g : Frame) (s : State) : (receive g.bytes s).Settled := by
  rw [show g.bytes = g.sync :: g.bytes.tail from rfl, receive_cons]
  exact receive_induction (P := State.Settled) (fun _ _ _ => settle_settled _) _ _ (settle_settled _)

theorem transfer_settled (h : Transfer f s t) : t.Settled := by
  cases h with
  | operation => exact settle_settled _
  | resetInput => exact (resetState_inv s).settled
  | sensorFrame => exact receive_bytes_settled _ s

/-- Settles O41: every transfer ends with a settle phase or a reset. -/
theorem settledAfterEveryTransfer : Obligations.SettledAfterEveryTransfer := by
  intro s t hport h
  obtain ⟨item, rest, hcons⟩ := List.exists_cons_of_ne_nil hport
  exact transfer_settled (transfer_of_step hcons h)

end Sys2Proof.Machine
end

section
/-! PROOFS. The family of 10_state.md: who writes the exchange state, the mode, the sample and the response. Each
register is followed through the main phase and then through at most one completion. -/

namespace Sys2Proof.Machine

variable {s t m : State} {f : Fetched}

/-! ### Completion, by its outcome -/

/-- A structurally valid frame is a success or the device's refusal. -/
theorem classify_ok_cases (k : Kind) (st : Byte) :
    classify k .ok st = .success ∨ classify k .ok st = .deviceRejected := by
  cases k with
  | dist => exact .inl (classify_dist st)
  | config =>
    rw [classify_config]
    split
    · exact .inl rfl
    · exact .inr rfl

/-- A completion on a bad frame writes no response; on a valid one it stores the response, and a SUCCESS is recorded. -/
theorem complete_cases (w : Frame) (s : State) :
    (∃ o, complete w s = emit (.exchDone o) (endExchange o (setQueue (s.q.drop 9) s))) ∨
    (classify s.expKind .ok w.status = .success ∧
      complete w s = emit (.exchDoneResp .success (fieldsOf w).addr (fieldsOf w).data (fieldsOf w).status)
        (recordSuccess (fieldsOf w) (storeResp (fieldsOf w) (endExchange .success (setQueue (s.q.drop 9) s))))) ∨
    complete w s = emit (.exchDoneResp .deviceRejected (fieldsOf w).addr (fieldsOf w).data (fieldsOf w).status)
      (storeResp (fieldsOf w) (endExchange .deviceRejected (setQueue (s.q.drop 9) s))) := by
  by_cases hv : validate w s.expSync s.expCmd = .ok
  · rcases classify_ok_cases s.expKind w.status with h | h
    · exact .inr (.inl ⟨h, by rw [complete_of_ok hv, h, if_pos rfl]⟩)
    · exact .inr (.inr (by rw [complete_of_ok hv, h, if_neg (by decide)]))
  · exact .inl ⟨_, complete_of_bad hv⟩

/-! ### The exchange state -/

/-- The end of an exchange by a completion is among the step's events. -/
theorem exchDone_mem_newEvents {u : State} (w : Frame) (hsu : s.events <+: u.events)
    (hut : (complete w u).events <+: t.events) : ∃ e, e ∈ newEvents s t ∧ e.isExchDone = true := by
  rcases complete_events w u with ⟨o, he⟩ | ⟨o, a, d, st, he⟩ <;>
    exact ⟨_, mem_newEvents_of_appended hsu he hut, rfl⟩

/-- No bytes alone change EXST: only a completion does. -/
theorem Completes.exst (h : Completes s t) :
    t.exst = s.exst ∨ t.exst = .idle ∧ ∃ e, e ∈ newEvents s t ∧ e.isExchDone = true := by
  rcases h with ⟨⟨_, _, _, rfl⟩, -⟩ | ⟨u, w, ⟨-, hu⟩, -, ⟨⟨_, _, _, rfl⟩, ht⟩⟩
  · exact .inl rfl
  · exact .inr ⟨(complete_frame w u).1, exchDone_mem_newEvents w hu.history ht.history⟩

/-- The main phases that change EXST: an accepted START*, a report that ends the exchange, and BRST. -/
theorem mainPhase_exst (h : MainPhase f s m) :
    m.exst = s.exst ∨ (∃ i a, f = .run i ∧ startArgsOf i = some a ∧ m = acceptStart a s) ∨
      m.exst = .idle ∧ (f.resets = true ∨ ∃ o, m.events = s.events ++ [.exchDone o]) := by
  cases h with
  | nop | stored | overrun | unpolled | sampled | discarded | busy | conflict | badParam | ignored | flushed
  | illegal =>
    exact .inl rfl
  | accepted ha => exact .inr (.inl ⟨_, _, rfl, ha, rfl⟩)
  | reported => exact .inr (.inr ⟨rfl, .inr ⟨_, rfl⟩⟩)
  | reset => exact .inr (.inr ⟨rfl, .inl rfl⟩)

/-- R22, entry: in IDLE only an accepted START* leads to WAIT. -/
theorem transfer_to_wait (h : Transfer f s t) (hidle : s.exst = .idle) (hwait : t.exst = .wait) :
    ∃ i a, f = .run i ∧ startArgsOf i = some a ∧ newEvents s t = [.tx (commandFrame a), .started] := by
  have hne : t.exst ≠ .idle := by simp [hwait]
  cases h with
  | @operation _ _ m hm =>
    rcases settle_cases m with ⟨hsettle, -⟩ | ⟨w, -, -, hsettle⟩ <;> rw [hsettle] at hne ⊢
    · rcases mainPhase_exst hm with hexst | ⟨i, a, hf, ha, rfl⟩ | ⟨hexst, -⟩
      · exact absurd (hexst.trans hidle) hne
      · exact ⟨i, a, hf, ha, newEvents_of_append (by simp [acceptStart])⟩
      · exact absurd hexst hne
    · exact absurd (complete_frame w m).1 hne
  | resetInput => exact absurd rfl hne
  | @sensorFrame _ g =>
    rcases (completes_receive g.bytes s).exst with hexst | ⟨hexst, -⟩
    · exact absurd (hexst.trans hidle) hne
    · exact absurd hexst hne

/-- R22, exit: in WAIT only a reset or the reported end of the exchange leads to IDLE. -/
theorem transfer_to_idle (h : Transfer f s t) (hwait : s.exst = .wait) (hidle : t.exst = .idle) :
    f.resets = true ∨ ∃ e, e ∈ newEvents s t ∧ e.isExchDone = true := by
  cases hf : f.resets with
  | true => exact .inl rfl
  | false =>
    right
    obtain ⟨m, hm, hc⟩ := h.completes hf
    have hsm : s.events <+: m.events := by
      rcases hm with rfl | hm
      · exact List.prefix_rfl
      · exact mainPhase_history hm
    have hend : m.exst = .wait → ∃ e, e ∈ newEvents s t ∧ e.isExchDone = true := fun hmwait => by
      rcases hc.exst with hexst | ⟨-, e, he, hdone⟩
      · exact absurd (hidle.symm.trans (hexst.trans hmwait)) (by simp)
      · exact ⟨e, mem_newEvents_of_later hsm he, hdone⟩
    rcases hm with rfl | hm
    · exact hend hwait
    · rcases mainPhase_exst hm with hexst | ⟨_, a, -, -, rfl⟩ | ⟨-, hreset | ⟨o, ho⟩⟩
      · exact hend (hexst.trans hwait)
      · exact hend rfl
      · exact absurd (hf.symm.trans hreset) (by simp)
      · exact ⟨_, mem_newEvents_of_appended List.prefix_rfl ho hc.ovrReported.history, rfl⟩

/-- Settles O43: both directions of R22, one transfer at a time. -/
theorem exchangeStateTransitions : Obligations.ExchangeStateTransitions := by
  intro s t h
  rcases step_cases h with ⟨-, rfl⟩ | ⟨f, rest, hf, htr⟩
  · exact ⟨fun hi hw => absurd (hi.symm.trans hw) (by simp), fun hw hi => absurd (hi.symm.trans hw) (by simp)⟩
  · refine ⟨fun hidle hwait => ?_, fun hwait hidle => ?_⟩
    · obtain ⟨i, a, rfl, ha, hnew⟩ := transfer_to_wait htr hidle hwait
      exact ⟨i, a, hf, ha, hnew⟩
    · rw [nextResets_iff hf]
      exact transfer_to_idle (s := setPort rest s) htr hwait hidle

/-! ### The mode -/

/-- The state holds the success of a mode exchange and the mode that it requested (R24, R132). -/
def ModeConfirmed (t : State) : Prop :=
  t.exst = .idle ∧ t.outcome = .success ∧ t.respStatus = 0x66#8 ∧ t.expSync = 0x62#8 ∧ t.expCmd = 0x34#8 ∧
    ((t.expMreq = .manual ∧ t.mode = .manual) ∨ (t.expMreq = .auto ∧ t.mode = .auto))

theorem status_eq_ack_of_success {st : Byte} (h : classify .config .ok st = .success) : st = 0x66#8 := by
  rw [classify_config] at h
  split at h
  · assumption
  · cases h

/-- The pair of SetUploadMode is a configuration pair, so that its success is the device's ACK. -/
theorem complete_mode (w : Frame) (hkind : s.expKind = kindOf s.expSync s.expCmd) :
    (complete w s).mode = s.mode ∨ ModeConfirmed (complete w s) := by
  rcases complete_cases w s with ⟨o, h⟩ | ⟨hsuccess, h⟩ | h <;> rw [h]
  · exact .inl rfl
  · cases hmode : confirmedMode s with
    | none => exact .inl (by simp [recordSuccess_eq, hmode])
    | some mode =>
      obtain ⟨hsync, hcmd, hreq⟩ := confirmedMode_eq_some.1 hmode
      have hstatus : w.status = 0x66#8 := by
        rw [hkind, hsync, hcmd] at hsuccess
        exact status_eq_ack_of_success hsuccess
      exact .inr (by simpa [ModeConfirmed, recordSuccess_eq, hmode, hsync, hcmd, fieldsOf, hstatus] using hreq)
  · exact .inl rfl

theorem Completes.mode (h : Completes s t) (hkind : s.expKind = kindOf s.expSync s.expCmd) :
    t.mode = s.mode ∨ ModeConfirmed t := by
  rcases h with ⟨⟨_, _, _, rfl⟩, -⟩ | ⟨u, w, ⟨⟨_, _, _, rfl⟩, -⟩, -, ⟨⟨_, _, _, rfl⟩, -⟩⟩
  · exact .inl rfl
  · exact complete_mode w hkind

theorem mainPhase_mode (h : MainPhase f s m) (hf : f.resets = false) : m.mode = s.mode := by
  cases h with
  | nop | stored | overrun | unpolled | sampled | discarded | busy | conflict | badParam | accepted | reported
  | ignored | flushed | illegal => rfl
  | reset => exact absurd hf (by decide)

theorem transfer_mode (h : Transfer f s t) (hs : s.Inv) :
    (f.resets = true ∧ t.mode = .manual) ∨ t.mode = s.mode ∨ ModeConfirmed t := by
  cases hf : f.resets with
  | true => exact .inl ⟨rfl, by rcases h.of_resets hf with rfl | rfl <;> rfl⟩
  | false =>
    right
    obtain ⟨m, rfl | hm, hc⟩ := h.completes hf
    · exact hc.mode hs.kind
    · exact mainPhase_mode hm hf ▸ hc.mode (mainPhase_coherent hm hs.coherent).kind

/-- Settles O44: no main phase but BRST writes MODE, and a completion writes it for a confirmed request only. -/
theorem modeChangesOnlyWhenConfirmed : Obligations.ModeChangesOnlyWhenConfirmed := by
  intro s t hs h hne
  rcases step_cases h with ⟨-, rfl⟩ | ⟨f, rest, hf, htr⟩
  · exact absurd rfl hne
  · rw [nextResets_iff hf]
    have hs' : (setPort rest s).Inv := ⟨hs.settled, hs.bounded, hs.pending, hs.notBusy, hs.kind⟩
    rcases transfer_mode htr hs' with hreset | hmode | hconfirmed
    · exact .inl hreset
    · exact absurd hmode hne
    · exact .inr hconfirmed

/-! ### The sample -/

/-- The sample registers as one value. -/
def sampleRegs (s : State) : Half × Half × Bool := (s.lastAddr, s.lastDist, s.lastValid)

/-- The state holds the success of a distance exchange and its response as the sample (R25, R132). -/
def SampleFromResponse (t : State) : Prop :=
  t.exst = .idle ∧ t.outcome = .success ∧ t.expKind = .dist ∧ t.lastAddr = t.respAddr ∧ t.lastDist = t.respData ∧
    t.lastValid = true

/-- The transfer was a POLL in AUTO on a valid window at the queue's head, whose fields are the sample (R134). -/
def SampleFromPoll (f : Fetched) (s t : State) : Prop :=
  ∃ w, f = .run .poll ∧ s.exst = .idle ∧ s.mode = .auto ∧ peek9 s.q = some w ∧
    validate w 0x62#8 0x33#8 = .ok ∧ t.lastAddr = cat16 w.addrHi w.addrLo ∧
    t.lastDist = cat16 w.data0 w.data1 ∧ t.lastValid = true

theorem complete_sample (w : Frame) (s : State) :
    sampleRegs (complete w s) = sampleRegs s ∨ SampleFromResponse (complete w s) := by
  rcases complete_cases w s with ⟨o, h⟩ | ⟨-, h⟩ | h <;> rw [h]
  · exact .inl rfl
  · by_cases hkind : s.expKind = .dist
    · exact .inr (by simp [SampleFromResponse, recordSuccess_eq, hkind])
    · exact .inl (by simp [sampleRegs, recordSuccess_eq, hkind])
  · exact .inl rfl

theorem Completes.sample (h : Completes s t) : sampleRegs t = sampleRegs s ∨ SampleFromResponse t := by
  rcases h with ⟨⟨_, _, _, rfl⟩, -⟩ | ⟨u, w, ⟨⟨_, _, _, rfl⟩, -⟩, -, ⟨⟨_, _, _, rfl⟩, -⟩⟩
  · exact .inl rfl
  · exact complete_sample w _

theorem mainPhase_sample (h : MainPhase f s m) (hf : f.resets = false) :
    sampleRegs m = sampleRegs s ∨ (m.exst = .idle ∧ SampleFromPoll f s m) := by
  cases h with
  | nop | stored | overrun | unpolled | discarded | busy | conflict | badParam | accepted | reported
  | ignored | flushed | illegal => exact .inl rfl
  | sampled w _ hidle hauto hq hvalid =>
    exact .inr ⟨hidle, w, rfl, hidle, hauto, peek9_eq_some.2 hq, hvalid, rfl, rfl, rfl⟩
  | reset => exact absurd hf (by decide)

/-- R25: what can change the sample. After a POLL's sample the state is idle and nothing completes. -/
theorem transfer_sample (h : Transfer f s t) (hf : f.resets = false) :
    sampleRegs t = sampleRegs s ∨ SampleFromPoll f s t ∨ SampleFromResponse t := by
  obtain ⟨m, rfl | hm, hc⟩ := h.completes hf
  · exact hc.sample.imp_right .inr
  · rcases mainPhase_sample hm hf with hsame | ⟨hidle, hpoll⟩
    · exact hsame ▸ hc.sample.imp_right .inr
    · obtain ⟨⟨_, _, _, rfl⟩, -⟩ := hc.received hidle
      exact .inr (.inl hpoll)

/-- R25: LAST_VALID does not fall when the sample is kept or replaced by a new one. -/
theorem lastValid_of_transfer (h : Transfer f s t) (hf : f.resets = false) (hvalid : s.lastValid = true) :
    t.lastValid = true := by
  rcases transfer_sample h hf with hsame | ⟨_, -, -, -, -, -, -, -, hnew⟩ | ⟨-, -, -, -, -, hnew⟩
  · exact (congrArg (·.2.2) hsame).trans hvalid
  · exact hnew
  · exact hnew

/-- Settles O45: a POLL or a completion writes the sample, and either sets LAST_VALID. -/
theorem sampleChangesOnlyWhenMeasured : Obligations.SampleChangesOnlyWhenMeasured := by
  intro s t h
  rcases step_cases h with ⟨-, rfl⟩ | ⟨f, rest, hf, htr⟩
  · exact ⟨fun hne => absurd rfl hne, .inl⟩
  · rw [nextResets_iff hf]
    cases hreset : f.resets with
    | true => exact ⟨fun _ => .inl rfl, fun _ => .inr rfl⟩
    | false =>
      refine ⟨fun hne => .inr ?_, fun hvalid => .inl (lastValid_of_transfer htr hreset hvalid)⟩
      rcases transfer_sample htr hreset with hsame | ⟨w, rfl, hpoll⟩ | hresponse
      · exact absurd hsame hne
      · exact .inl ⟨w, hf, hpoll⟩
      · exact .inr hresponse

/-! ### The response -/

/-- The response registers as one value. -/
def respRegs (s : State) : Half × Half × Byte := (s.respAddr, s.respData, s.respStatus)

/-- The end of an exchange with SUCCESS or DEVICE_REJECTED left the registers that its event reports (R26). -/
def ResponseReported (s t : State) : Prop :=
  t.exst = .idle ∧ (t.outcome = .success ∨ t.outcome = .deviceRejected) ∧
    .exchDoneResp t.outcome t.respAddr t.respData t.respStatus ∈ newEvents s t

theorem complete_response (w : Frame) (s : State) :
    respRegs (complete w s) = respRegs s ∨
      ((complete w s).outcome = .success ∨ (complete w s).outcome = .deviceRejected) ∧
        (complete w s).events = s.events ++ [.exchDoneResp (complete w s).outcome (complete w s).respAddr
          (complete w s).respData (complete w s).respStatus] := by
  rcases complete_cases w s with ⟨o, h⟩ | ⟨-, h⟩ | h <;> rw [h]
  · exact .inl rfl
  · exact .inr (by simp [recordSuccess_eq])
  · exact .inr (by simp)

theorem Completes.response {r : State} (h : Completes s t) (hrs : r.events <+: s.events) :
    respRegs t = respRegs s ∨ ResponseReported r t := by
  rcases h with ⟨⟨_, _, _, rfl⟩, -⟩ | ⟨u, w, ⟨⟨_, _, _, rfl⟩, hu⟩, -, ⟨⟨_, _, _, rfl⟩, ht⟩⟩
  · exact .inl rfl
  · rcases complete_response w _ with hsame | ⟨houtcome, hevents⟩
    · exact .inl hsame
    · exact .inr ⟨(complete_frame w _).1, houtcome,
        mem_newEvents_of_appended (hrs.trans hu.history) hevents ht.history⟩

theorem mainPhase_response (h : MainPhase f s m) (hf : f.resets = false) : respRegs m = respRegs s := by
  cases h with
  | nop | stored | overrun | unpolled | sampled | discarded | busy | conflict | badParam | accepted | reported
  | ignored | flushed | illegal => rfl
  | reset => exact absurd hf (by decide)

theorem transfer_response (h : Transfer f s t) (hf : f.resets = false) :
    respRegs t = respRegs s ∨ ResponseReported s t := by
  obtain ⟨m, rfl | hm, hc⟩ := h.completes hf
  · exact hc.response List.prefix_rfl
  · exact mainPhase_response hm hf ▸ hc.response (mainPhase_history hm)

/-- Settles O46: only a completion writes the response, and it reports what it wrote. -/
theorem responseChangesOnlyByCompletion : Obligations.ResponseChangesOnlyByCompletion := by
  intro s t h hne
  rcases step_cases h with ⟨-, rfl⟩ | ⟨f, rest, hf, htr⟩
  · exact absurd rfl hne
  · rw [nextResets_iff hf]
    cases hreset : f.resets with
    | true => exact .inl rfl
    | false => exact .inr ((transfer_response htr hreset).resolve_left hne)

end Sys2Proof.Machine
end

section
/-! PROOFS. The family of 10_state.md: the sticky flags, the events of an operation, the order of the queue. -/

namespace Sys2Proof.Machine

variable {s s' t m : State} {f : Fetched}

/-! ### What sets and clears the flags -/

theorem settle_ovr (s : State) : (settle s).ovr = s.ovr := by
  rcases settle_cases s with ⟨h, -⟩ | ⟨w, -, -, h⟩ <;> rw [h]
  obtain ⟨-, -, -, -, -, -, -, hovr, -, -⟩ := complete_frame w s
  exact hovr

/-- R28: an RXB on a full queue. -/
theorem exec_rxb_full_sets_ovr {b : Byte} (hfull : Config.rxqDepth ≤ s.q.length) :
    ∃ t, exec (.rxb b) s = .next t ∧ t.ovr = true := by
  refine ⟨_, exec_rxb s b, ?_⟩
  rw [settle_ovr, rxbMain, if_neg (by omega)]
  rfl

/-- FLUSH and the resets clear OVR (R28, R138, R230). -/
theorem transfer_clears_ovr (h : Transfer f s t) (hf : f = .run .flush ∨ f.resets = true) : t.ovr = false := by
  rcases hf with rfl | hf
  · cases h with
    | operation hm =>
      rw [settle_ovr]
      cases hm with
      | flushed => rfl
      | busy ha | conflict ha | badParam ha | accepted ha => cases ha
      | reported _ hi => simp at hi
      | ignored _ hi => simp at hi
    | sensorFrame hg => cases hg
  · rcases h.of_resets hf with rfl | rfl <;> rfl

theorem transfer_ovr (h : Transfer f s t) (hflush : f ≠ .run .flush) (hf : f.resets = false) : OvrReported s t := by
  obtain ⟨m, rfl | hm, hc⟩ := h.completes hf
  · exact hc.ovrReported
  · exact (ovrReported_of_mainPhase hm hflush hf).trans hc.ovrReported

theorem OvrReported.iff (h : OvrReported s t) :
    t.ovr = true ↔ s.ovr = true ∨ ∃ b, .overrun b ∈ newEvents s t := by
  obtain ⟨new, hnew, hovr⟩ := h
  rwa [newEvents_of_append hnew]

theorem Completes.ill (h : Completes s t) : t.ill = s.ill := by
  rcases h with ⟨⟨_, _, _, rfl⟩, -⟩ | ⟨u, w, ⟨⟨_, _, _, rfl⟩, -⟩, -, ⟨⟨_, _, _, rfl⟩, -⟩⟩
  · rfl
  · obtain ⟨-, -, -, -, -, -, -, -, hill, -⟩ := complete_frame w { s with q := _, ovr := _, events := _ }
    exact hill

theorem mainPhase_ill (h : MainPhase f s m) (hf : f.resets = false) :
    m.ill = true ↔ s.ill = true ∨ ∃ w, f = .illegal w := by
  cases h with
  | nop | stored | overrun | unpolled | sampled | discarded | busy | conflict | badParam | accepted | reported
  | ignored | flushed =>
    simp [refuseStart, acceptStart, flushMain]
  | reset => exact absurd hf (by decide)
  | illegal => simp [illegalMain]

/-- R29: ILL is set exactly by an illegal word, and falls by a reset alone. -/
theorem transfer_ill (h : Transfer f s t) (hf : f.resets = false) :
    t.ill = true ↔ s.ill = true ∨ ∃ w, f = .illegal w := by
  cases h with
  | operation hm => rw [(completes_settle _).ill]; exact mainPhase_ill hm hf
  | resetInput => exact absurd hf (by decide)
  | sensorFrame => rw [(completes_receive _ s).ill]; simp

/-! ### The flags change nothing else -/

/-- The states differ at most in OVR and ILL. -/
def AgreeButFlags (s s' : State) : Prop := ∃ ovr ill, s' = { s with ovr := ovr, ill := ill }

theorem agreeButFlags_complete (w : Frame) (h : AgreeButFlags s s') : AgreeButFlags (complete w s) (complete w s') := by
  obtain ⟨ovr, ill, rfl⟩ := h
  refine ⟨ovr, ill, ?_⟩
  by_cases hv : validate w s.expSync s.expCmd = .ok
  · rw [complete_of_ok (s := { s with ovr := ovr, ill := ill }) hv, complete_of_ok hv]
    split
    · simp only [recordSuccess_eq]; rfl
    · rfl
  · rw [complete_of_bad (s := { s with ovr := ovr, ill := ill }) hv, complete_of_bad hv]
    rfl

theorem agreeButFlags_settle (h : AgreeButFlags s s') : AgreeButFlags (settle s) (settle s') := by
  rcases settle_cases s with ⟨hs, hshort⟩ | ⟨w, hwait, hq, hs⟩
  · obtain ⟨ovr, ill, rfl⟩ := h
    rw [hs, settle_of_settled (s := { s with ovr := ovr, ill := ill }) hshort]
    exact ⟨ovr, ill, rfl⟩
  · rw [hs]
    obtain ⟨ovr, ill, rfl⟩ := h
    rw [settle_of_window (s := { s with ovr := ovr, ill := ill }) hwait hq]
    exact agreeButFlags_complete w ⟨ovr, ill, rfl⟩

theorem agreeButFlags_rxbMain (b : Byte) (h : AgreeButFlags s s') : AgreeButFlags (rxbMain b s) (rxbMain b s') := by
  obtain ⟨ovr, ill, rfl⟩ := h
  unfold rxbMain
  dsimp only
  split
  · exact ⟨ovr, ill, rfl⟩
  · exact ⟨true, ill, rfl⟩

theorem agreeButFlags_pollMain (h : AgreeButFlags s s') : AgreeButFlags (pollMain s) (pollMain s') := by
  obtain ⟨ovr, ill, rfl⟩ := h
  refine ⟨ovr, ill, ?_⟩
  unfold pollMain
  dsimp only
  split
  · rfl
  · split
    · rfl
    · cases peek9 s.q with
      | none => rfl
      | some w => dsimp only; split <;> rfl

theorem agreeButFlags_startMain (a : StartArgs) (h : AgreeButFlags s s') :
    AgreeButFlags (startMain a s) (startMain a s') := by
  obtain ⟨ovr, ill, rfl⟩ := h
  refine ⟨ovr, ill, ?_⟩
  unfold startMain
  dsimp only
  split
  · rfl
  · split
    · rfl
    · split <;> rfl

theorem agreeButFlags_reportMain (o : OutcomeCode) (h : AgreeButFlags s s') :
    AgreeButFlags (reportMain o s) (reportMain o s') := by
  obtain ⟨ovr, ill, rfl⟩ := h
  refine ⟨ovr, ill, ?_⟩
  unfold reportMain
  dsimp only
  split <;> rfl

theorem agreeButFlags_receive (bs : List Byte) :
    ∀ {s s' : State}, AgreeButFlags s s' → AgreeButFlags (receive bs s) (receive bs s') := by
  induction bs with
  | nil => exact fun h => h
  | cons b bs ih => exact fun h => ih (agreeButFlags_settle (agreeButFlags_rxbMain b h))

/-- R208: no transfer reads a flag. -/
theorem runFetched_agreeButFlags (f : Fetched) (h : AgreeButFlags s s') :
    ∃ t t', runFetched f s = .next t ∧ runFetched f s' = .next t' ∧ AgreeButFlags t t' := by
  cases f with
  | illegal w =>
    refine ⟨_, _, rfl, rfl, agreeButFlags_settle ?_⟩
    obtain ⟨ovr, ill, rfl⟩ := h
    exact ⟨ovr, true, rfl⟩
  | resetInput =>
    obtain ⟨ovr, ill, rfl⟩ := h
    exact ⟨_, _, rfl, rfl, false, false, rfl⟩
  | run i =>
    rcases instr_cases i with rfl | ⟨b, rfl⟩ | rfl | rfl | rfl | rfl | rfl | ⟨a, ha⟩ | ⟨g, hg⟩
    · refine ⟨_, _, rfl, rfl, agreeButFlags_settle ?_⟩
      obtain ⟨ovr, ill, rfl⟩ := h
      exact ⟨ovr, ill, rfl⟩
    · exact ⟨_, _, rfl, rfl, agreeButFlags_settle (agreeButFlags_rxbMain b h)⟩
    · exact ⟨_, _, rfl, rfl, agreeButFlags_settle (agreeButFlags_pollMain h)⟩
    · exact ⟨_, _, rfl, rfl, agreeButFlags_settle (agreeButFlags_reportMain _ h)⟩
    · exact ⟨_, _, rfl, rfl, agreeButFlags_settle (agreeButFlags_reportMain _ h)⟩
    · refine ⟨_, _, rfl, rfl, agreeButFlags_settle ?_⟩
      obtain ⟨ovr, ill, rfl⟩ := h
      exact ⟨false, ill, rfl⟩
    · refine ⟨_, _, rfl, rfl, agreeButFlags_settle ?_⟩
      obtain ⟨ovr, ill, rfl⟩ := h
      exact ⟨false, false, rfl⟩
    · exact ⟨_, _, exec_of_startArgs s ha, exec_of_startArgs s' ha, agreeButFlags_settle (agreeButFlags_startMain a h)⟩
    · exact ⟨_, _, exec_of_sensorFrame s hg, exec_of_sensorFrame s' hg, agreeButFlags_receive g.bytes h⟩

theorem step_agreeButFlags (h : AgreeButFlags s s') :
    ∃ t t', step s = .next t ∧ step s' = .next t' ∧ AgreeButFlags t t' := by
  have hsame : s'.port = s.port := by
    obtain ⟨ovr, ill, rfl⟩ := h
    rfl
  cases hport : s.port with
  | nil => exact ⟨s, s', step_nil s hport, step_nil s' (hsame.trans hport), h⟩
  | cons item rest =>
    rw [step_cons s hport, step_cons s' (hsame.trans hport)]
    apply runFetched_agreeButFlags
    obtain ⟨ovr, ill, rfl⟩ := h
    exact ⟨ovr, ill, rfl⟩

/-- Settles O47: the four parts of R28, R29 and R208. -/
theorem stickyFlagsAreSetClearedAndOnlyReported : Obligations.StickyFlagsAreSetClearedAndOnlyReported := by
  refine ⟨fun s b => exec_rxb_full_sets_ovr, fun s t h => ?_, fun s t h => ?_, fun s t ovr ill h => ?_⟩
  · rcases step_cases h with ⟨hf, rfl⟩ | ⟨f, rest, hf, htr⟩
    · refine ⟨?_, fun _ => (OvrReported.refl t).iff⟩
      simp [hf, not_nextResets_of_none hf]
    · rw [nextResets_iff hf, hf, Option.some_inj]
      refine ⟨transfer_clears_ovr htr, fun hno => ?_⟩
      obtain ⟨hflush, hreset⟩ := not_or.1 hno
      exact (transfer_ovr htr hflush (Bool.eq_false_iff.2 hreset)).iff
  · rcases step_cases h with ⟨hf, rfl⟩ | ⟨f, rest, hf, htr⟩
    · simp [hf, not_nextResets_of_none hf]
    · rw [nextResets_iff hf, hf]
      simp only [Option.some_inj]
      refine ⟨fun hreset => ?_, fun hreset => transfer_ill (s := setPort rest s) htr (Bool.eq_false_iff.2 hreset)⟩
      rcases htr.of_resets hreset with rfl | rfl <;> rfl
  · obtain ⟨u, t', hu, ht', ovr', ill', rfl⟩ := step_agreeButFlags (s := s) ⟨ovr, ill, rfl⟩
    rw [h] at hu
    cases hu
    exact ⟨_, ht', rfl⟩

/-! ### The events of an operation -/

theorem settle_events (s : State) :
    ∃ fin, (settle s).events = s.events ++ fin ∧ (fin = [] ∨ ∃ e, fin = [e] ∧ e.isExchDone = true) := by
  rcases settle_cases s with ⟨h, -⟩ | ⟨w, -, -, h⟩ <;> rw [h]
  · exact ⟨[], by simp⟩
  · rcases complete_events w s with ⟨o, he⟩ | ⟨o, a, d, st, he⟩ <;> exact ⟨_, he, .inr ⟨_, rfl, rfl⟩⟩

/-- A START* operation is answered by one of START*'s four events. -/
theorem responds_of_startArgs {i : Instr} {a : StartArgs} {e : Event} (ha : startArgsOf i = some a)
    (hop : i.isOperation = true) (he : e.isStartResponse = true) : responds i e = true := by
  cases i with
  | start | startMan | startAuto => exact he
  | nop | rxb | poll | timeout | txfail | flush | brst | respConfig | frameDist => cases ha
  | resetHard | resetSoft | setAddr | setBaud | setUpModeAuto | setUpModeMan | setUpInt | setCommA | setCommB
  | setLed | setRelay | readDist => cases hop

/-- The Tx of a main phase and its response: Started after a frame sent, else another response (R43, R135). -/
def AnsweredWith (i : Instr) (tx : List Event) (r : Event) : Prop :=
  responds i r = true ∧
    ((tx = [] ∧ r ≠ .started) ∨ ∃ a, startArgsOf i = some a ∧ tx = [.tx (commandFrame a)] ∧ r = .started)

theorem AnsweredWith.plain {i : Instr} {r : Event} (h : responds i r = true) (hr : r ≠ .started) :
    AnsweredWith i [] r := ⟨h, .inl ⟨rfl, hr⟩⟩

/-- The response event of each branch. -/
theorem mainPhase_answers {i : Instr} (h : MainPhase (.run i) s m) (hop : i.isOperation = true) :
    ∃ tx r, m.events = s.events ++ (tx ++ [r]) ∧ AnsweredWith i tx r := by
  cases h with
  | nop | flushed | reset => exact ⟨[], .done, rfl, .plain rfl (by simp)⟩
  | stored => exact ⟨[], .done, rfl, .plain (by simp [responds]) (by simp)⟩
  | overrun b => exact ⟨[], .overrun b, rfl, .plain (by simp [responds]) (by simp)⟩
  | unpolled e _ he =>
    refine ⟨[], e, rfl, ?_⟩
    rcases he with ⟨rfl, -⟩ | ⟨rfl, -⟩ | ⟨rfl, -⟩ <;> exact .plain rfl (by simp)
  | sampled | discarded => exact ⟨[], _, rfl, .plain rfl (by simp)⟩
  | busy ha | conflict ha | badParam ha =>
    exact ⟨[], _, rfl, .plain (responds_of_startArgs ha hop rfl) (by simp)⟩
  | @accepted _ a ha =>
    exact ⟨[.tx (commandFrame a)], .started, by simp [acceptStart], responds_of_startArgs ha hop rfl,
      .inr ⟨a, ha, rfl, rfl⟩⟩
  | reported _ hi =>
    refine ⟨[], _, rfl, .plain ?_ (by simp)⟩
    rcases hi with ⟨rfl, rfl⟩ | ⟨rfl, rfl⟩ <;> rfl
  | ignored _ hi =>
    refine ⟨[], _, rfl, .plain ?_ (by simp)⟩
    rcases hi with rfl | rfl <;> rfl

/-- An operation word runs one main phase and the settle phase: it is no sensor frame. -/
theorem step_word {w : OpWord} {rest : List PortItem} (hport : s.port = .word w :: rest) :
    ∃ m, step s = .next (settle m) ∧ MainPhase (fetchItem (.word w)) (setPort rest s) m := by
  rw [step_cons s hport]
  cases hw : decodeOp w with
  | error r =>
    rw [fetchItem_illegal hw]
    exact ⟨_, rfl, .illegal w _⟩
  | ok i =>
    rw [fetchItem_word hw]
    obtain ⟨t, ht, htr⟩ := exec_transfer i (setPort rest s)
    have hop := decodeOp_isOperation hw
    cases htr with
    | operation hm => exact ⟨_, ht, hm⟩
    | sensorFrame hg => cases i <;> simp [sensorFrameOf, Instr.isOperation] at hg hop

theorem decodeOp_of_fetchItem_word {w : OpWord} {i : Instr} (h : fetchItem (.word w) = .run i) :
    decodeOp w = .ok i := by
  cases hw : decodeOp w with
  | error r => rw [fetchItem_illegal hw] at h; cases h
  | ok j => rw [fetchItem_word hw] at h; cases h; rfl

/-- Settles O48: the main phase answers once, the settle phase adds at most the end of an exchange. -/
theorem eventsOfAnOperation : Obligations.EventsOfAnOperation := by
  intro s w i rest hport hw
  obtain ⟨m, hstep, hm⟩ := step_word hport
  rw [fetchItem_word hw] at hm
  obtain ⟨tx, r, hevents, hresponds, htx⟩ := mainPhase_answers hm (decodeOp_isOperation hw)
  obtain ⟨fin, hfin, hend⟩ := settle_events m
  refine ⟨settle m, tx, r, fin, hstep, ?_, hresponds, htx, hend⟩
  rw [hfin, hevents, List.append_assoc]
  rfl

/-! ### The order of the queue -/

/-- The settle phase removes nothing, or the nine bytes of its window from the head of a waiting state's queue. -/
theorem settle_queue (s : State) :
    (settle s).q = s.q ∨ s.exst = .wait ∧ 9 ≤ s.q.length ∧ (settle s).q = s.q.drop 9 := by
  rcases settle_cases s with ⟨h, -⟩ | ⟨w, hwait, hq, h⟩ <;> rw [h]
  · exact .inl rfl
  · obtain ⟨-, hdrop, -⟩ := complete_frame w s
    exact .inr ⟨hwait, by rw [hq]; simp, hdrop⟩

/-- A main phase leaves the queue, appends RXB's byte, or takes bytes off its head: nine and one by POLL, which
stays in IDLE, all by FLUSH and BRST. -/
theorem mainPhase_queue (h : MainPhase f s m) :
    m.q = s.q ∨ (∃ b, f = .run (.rxb b) ∧ m.q = s.q ++ [b]) ∨
      (f = .run .poll ∧ m.exst = .idle ∧ (m.q = s.q.drop 1 ∨ 9 ≤ s.q.length ∧ m.q = s.q.drop 9)) ∨
      (f = .run .flush ∨ f = .run .brst) ∧ m.q = [] := by
  cases h with
  | nop | overrun | unpolled | busy | conflict | badParam | accepted | reported | ignored | illegal => exact .inl rfl
  | stored b => exact .inr (.inl ⟨b, rfl, rfl⟩)
  | sampled w _ hidle _ hq =>
    exact .inr (.inr (.inl ⟨rfl, hidle, .inr ⟨by rw [hq]; simp, rfl⟩⟩))
  | discarded _ _ hidle => exact .inr (.inr (.inl ⟨rfl, hidle, .inl rfl⟩))
  | flushed => exact .inr (.inr (.inr ⟨.inl rfl, rfl⟩))
  | reset => exact .inr (.inr (.inr ⟨.inr rfl, rfl⟩))

/-- The settle phase as a number of bytes taken off the head. -/
theorem settle_queue_drop {added : List Byte} (hm : m.q = s.q ++ added) :
    ∃ k, (settle m).q = (s.q ++ added).drop k ∧ (k = 0 ∨ k = 9 ∧ 9 ≤ (s.q ++ added).length) := by
  rcases settle_queue m with h | ⟨-, hlen, h⟩ <;> rw [h, hm]
  · exact ⟨0, rfl, .inl rfl⟩
  · exact ⟨9, rfl, .inr ⟨rfl, hm ▸ hlen⟩⟩

/-- Settles O49: where the main phase takes bytes off, it leaves the settle phase none to take. -/
theorem queueIsFirstInFirstOut : Obligations.QueueIsFirstInFirstOut := by
  intro s w rest t hport h
  obtain ⟨m, hstep, hm⟩ := step_word hport
  obtain rfl : settle m = t := by
    rw [hstep] at h
    cases h
    rfl
  rcases mainPhase_queue hm with hq | ⟨b, hf, hq⟩ | ⟨hf, hidle, hq⟩ | ⟨hf, hq⟩
  · obtain ⟨k, hk, hcount⟩ := settle_queue_drop (s := s) (added := []) (by rw [hq]; simp)
    exact ⟨[], k, hk, .inl rfl, hcount.imp_right fun h => .inr (.inl h)⟩
  · obtain ⟨k, hk, hcount⟩ := settle_queue_drop (s := s) hq
    exact ⟨[b], k, hk, .inr ⟨b, decodeOp_of_fetchItem_word hf, rfl⟩, hcount.imp_right fun h => .inr (.inl h)⟩
  · rw [settle_of_idle hidle]
    rcases hq with hq | ⟨hlen, hq⟩
    · exact ⟨[], 1, by simpa using hq, .inl rfl, .inr (.inl ⟨rfl, decodeOp_of_fetchItem_word hf⟩)⟩
    · exact ⟨[], 9, by simpa using hq, .inl rfl, .inr (.inr (.inl ⟨rfl, by simpa using hlen⟩))⟩
  · rw [settle_of_short (by simp [hq])]
    exact ⟨[], s.q.length, by simp [hq], .inl rfl,
      .inr (.inr (.inr ⟨rfl, rfl, hf.imp decodeOp_of_fetchItem_word decodeOp_of_fetchItem_word⟩))⟩

end Sys2Proof.Machine
end

section
/-! PROOFS. The family of 10_state.md: the register read port. -/

namespace Sys2Proof.Machine

open BitVec (extractLsb'_append_eq_of_le extractLsb'_append_eq_left extractLsb'_append_eq_right)

variable (s : State)

/-! ### The words of the registers

The fields below the wanted one are peeled off until it stands lowest. -/

theorem statusWord_fields :
    (readReg s 0#8).extractLsb' 0 1 = exstBit s.exst ∧ (readReg s 0#8).extractLsb' 1 1 = modeBit s.mode ∧
      (readReg s 0#8).extractLsb' 2 1 = BitVec.ofBool s.lastValid ∧
      (readReg s 0#8).extractLsb' 3 1 = BitVec.ofBool s.ovr ∧ (readReg s 0#8).extractLsb' 4 1 = BitVec.ofBool s.ill ∧
      (readReg s 0#8).extractLsb' 5 3 = 0#3 ∧ (readReg s 0#8).extractLsb' 8 4 = s.outcome.code ∧
      (readReg s 0#8).extractLsb' 12 20 = 0#20 := by
  rw [show readReg s 0#8 = statusWord s from rfl, statusWord]
  refine ⟨?_, ?_, ?_, ?_, ?_, ?_, ?_, ?_⟩
  all_goals repeat rw [extractLsb'_append_eq_of_le (by omega)]
  case refine_8 => exact BitVec.extractLsb'_eq_self
  all_goals exact extractLsb'_append_eq_right

theorem expWord_fields :
    (readReg s 4#8).extractLsb' 0 8 = s.expSync ∧ (readReg s 4#8).extractLsb' 8 8 = s.expCmd ∧
      (readReg s 4#8).extractLsb' 16 2 = mreqBits s.expMreq ∧ (readReg s 4#8).extractLsb' 18 1 = kindBit s.expKind ∧
      (readReg s 4#8).extractLsb' 19 13 = 0#13 := by
  rw [show readReg s 4#8 = expWord s from rfl, expWord]
  refine ⟨?_, ?_, ?_, ?_, ?_⟩
  all_goals repeat rw [extractLsb'_append_eq_of_le (by omega)]
  case refine_5 => exact BitVec.extractLsb'_eq_self
  all_goals exact extractLsb'_append_eq_right

/-- R39: the count of a bounded queue fits its sixteen bits. -/
theorem rxCountWord (h : s.q.length ≤ Config.rxqDepth) : (readReg s 5#8).toNat = s.q.length := by
  have hfits : s.q.length < 65536 := h.trans_lt rxqDepth_bounds.2
  rw [show readReg s 5#8 = 0#16 ++ BitVec.ofNat 16 s.q.length from rfl, BitVec.toNat_append]
  simpa using hfits

/-- R40: no register at an index from 6. -/
theorem readReg_unmapped {idx : BitVec 8} (h : 6 ≤ idx.toNat) : readReg s idx = 0#32 := by
  have hne : ∀ k : BitVec 8, k.toNat < 6 → idx ≠ k := by
    rintro k hk rfl
    omega
  unfold readReg
  rw [if_neg (hne _ (by decide)), if_neg (hne _ (by decide)), if_neg (hne _ (by decide)),
    if_neg (hne _ (by decide)), if_neg (hne _ (by decide)), if_neg (hne _ (by decide))]

theorem readReg_reset (idx : BitVec 8) : readReg State.reset idx = 0#32 := by
  unfold readReg
  repeat' split
  all_goals rfl

/-- Settles O57: the six words, field by field. -/
theorem registerMap : Obligations.RegisterMap := by
  intro s hq
  exact ⟨statusWord_fields s, ⟨extractLsb'_append_eq_left, extractLsb'_append_eq_right⟩,
    ⟨extractLsb'_append_eq_left, extractLsb'_append_eq_right⟩,
    ⟨extractLsb'_append_eq_right, extractLsb'_append_eq_left⟩, expWord_fields s, rxCountWord s hq,
    fun _ => readReg_unmapped s, readReg_reset⟩

/-! ### The checked read -/

/-- R41: a response is held exactly after an exchange with the outcome code 1 or 5, in IDLE. -/
theorem holdsResponse_iff :
    holdsResponse s = true ↔ s.exst = .idle ∧ (s.outcome.code = 1#4 ∨ s.outcome.code = 5#4) := by
  unfold holdsResponse
  cases s.outcome <;> simp [OutcomeCode.code]

theorem readRegChecked_last (h : s.lastValid = true) : readRegChecked s 1#8 = .ok (readReg s 1#8) := by
  simp [readRegChecked, h]

theorem readRegChecked_last_noSample (h : s.lastValid = false) : readRegChecked s 1#8 = .error .noSample := by
  simp [readRegChecked, h]

theorem readRegChecked_resp {idx : BitVec 8} (hidx : idx = 2#8 ∨ idx = 3#8) :
    readRegChecked s idx = if holdsResponse s = true then .ok (readReg s idx) else .error .noResponse := by
  rcases hidx with rfl | rfl <;> cases h : holdsResponse s <;> simp [readRegChecked, h]

theorem readRegChecked_other {idx : BitVec 8} (h1 : idx ≠ 1#8) (h2 : idx ≠ 2#8) (h3 : idx ≠ 3#8) :
    readRegChecked s idx = .ok (readReg s idx) := by
  simp [readRegChecked, h1, h2, h3]

/-- Settles O59: LAST, the two response registers, and the rest. -/
theorem readsWithoutAValueFault : Obligations.ReadsWithoutAValueFault := by
  intro s
  refine ⟨readRegChecked_last_noSample s, readRegChecked_last s, fun idx hidx => ?_,
    fun idx => readRegChecked_other s⟩
  rw [readRegChecked_resp s hidx, ← holdsResponse_iff]
  exact ⟨fun h => if_pos h, fun h => if_neg h⟩

end Sys2Proof.Machine
end

section
/-! PROOFS. The family of 30_encoding.md, its first layer: the ten conditions of R93 by the fields of a word, and
what the decoder answers to each. The later sections go through the conditions and do not open the decoder again. -/

namespace Sys2Proof

open Machine

variable {w : OpWord}

/-! ### Adjacent fields -/

/-- A field has the value `hi ++ lo` exactly when its upper part is `hi` and its lower part is `lo`. -/
theorem extractLsb'_eq_append_iff {k m n start : Nat} {x : BitVec k} {hi : BitVec m} {lo : BitVec n} :
    x.extractLsb' start (m + n) = hi ++ lo ↔ x.extractLsb' (start + n) m = hi ∧ x.extractLsb' start n = lo := by
  rw [← BitVec.extractLsb'_append_extractLsb'_eq_extractLsb' rfl]
  constructor
  · intro h
    have hhi := congrArg (BitVec.extractLsb' n m) h
    have hlo := congrArg (BitVec.extractLsb' 0 n) h
    rw [BitVec.extractLsb'_append_eq_left, BitVec.extractLsb'_append_eq_left] at hhi
    rw [BitVec.extractLsb'_append_eq_right, BitVec.extractLsb'_append_eq_right] at hlo
    exact ⟨hhi, hlo⟩
  · rintro ⟨rfl, rfl⟩
    rfl

/-! ### The conditions of R93 by the fields OP and the rest -/

/-- R82: format Z fixes every bit below OP at zero. -/
theorem eq_zWord_iff {op : BitVec 4} : w = zWord op ↔ opField w = op ∧ w.extractLsb' 0 60 = 0#60 := by
  conv_lhs => rw [← BitVec.extractLsb'_eq_self (x := w)]
  exact extractLsb'_eq_append_iff (hi := op) (lo := 0#60)

/-- R83: format B fixes the bits between OP and BYTE at zero. -/
theorem rxbUpper_iff :
    w.extractLsb' 8 56 = 0x10000000000000#56 ↔ opField w = 0x1#4 ∧ w.extractLsb' 8 52 = 0#52 :=
  extractLsb'_eq_append_iff (hi := 0x1#4) (lo := 0#52)

/-- R84: the top byte of format S is OP and, below it, two zero bits and MREQ. -/
theorem topByte_eq_append_iff {op n : BitVec 4} :
    topByte w = op ++ n ↔ opField w = op ∧ w.extractLsb' 56 4 = n :=
  extractLsb'_eq_append_iff (hi := op) (lo := n)

/-! ### A word that meets a condition is the encoder's word for its fields -/

theorem rxbWord_p2Field (h : w.extractLsb' 8 56 = 0x10000000000000#56) : rxbWord (p2Field w) = w := by
  conv_rhs => rw [word_of_upper w, h]
  rfl

/-- The START* operands in a word's fields (R84), for a mode request. -/
def startFields (m : Mreq) (w : OpWord) : StartArgs :=
  ⟨m, syncField w, cmdField w, addrField w, p0Field w, p1Field w, p2Field w⟩

theorem startWord_startFields {m : Mreq} (h : topByte w = 0x3#4 ++ 0#2 ++ mreqBits m) :
    startWord (startFields m w) = w := by
  conv_rhs => rw [word_of_fields w, h]
  rfl

theorem startFields_startWord (a : StartArgs) : startFields a.mreq (startWord a) = a := by
  simp [startFields]

/-! ### The decoder, row by row -/

/-- The operation of format S with these operands. -/
def startOf (a : StartArgs) : Instr := startInstr a.mreq a.sync a.cmd a.addr a.p0 a.p1 a.p2

theorem startArgsOf_startOf (a : StartArgs) : startArgsOf (startOf a) = some a := by
  obtain ⟨m, sync, cmd, addr, p0, p1, p2⟩ := a
  cases m <;> rfl

theorem encode_startOf (a : StartArgs) : encode (startOf a) = [startWord a] := by
  obtain ⟨m, sync, cmd, addr, p0, p1, p2⟩ := a
  cases m <;> rfl

/-- A word with another OP is not the word of format Z. -/
theorem ne_zWord {op op' : BitVec 4} (h : opField w = op) (hne : op ≠ op') : w ≠ zWord op' := fun hw =>
  hne (h.symm.trans (eq_zWord_iff.1 hw).1)

theorem decodeOp_of_rxbUpper (h : w.extractLsb' 8 56 = 0x10000000000000#56) :
    decodeOp w = .ok (.rxb (p2Field w)) := by
  have hnop : w ≠ 0x0000000000000000#64 := ne_zWord (op' := 0x0#4) (rxbUpper_iff.1 h).1 (by decide)
  rw [decodeOp, if_neg hnop, if_pos h]

theorem decodeOp_of_startTop {m : Mreq} (h : topByte w = 0x3#4 ++ 0#2 ++ mreqBits m) :
    decodeOp w = .ok (startOf (startFields m w)) := by
  have hop : opField w = 0x3#4 := by
    rw [BitVec.append_assoc] at h
    exact (topByte_eq_append_iff.1 h).1
  have hnop : w ≠ 0x0000000000000000#64 := ne_zWord (op' := 0x0#4) hop (by decide)
  have hpoll : w ≠ 0x2000000000000000#64 := ne_zWord (op' := 0x2#4) hop (by decide)
  have hrxb : w.extractLsb' 8 56 ≠ 0x10000000000000#56 := fun hu =>
    absurd (hop.symm.trans (rxbUpper_iff.1 hu).1) (by decide)
  rw [decodeOp, if_neg hnop, if_neg hrxb, if_neg hpoll, h]
  cases m <;> rfl

theorem decodeOp_rxbWord (b : Byte) : decodeOp (rxbWord b) = .ok (.rxb b) := by
  rw [decodeOp_of_rxbUpper (upper_rxbWord b), p2Field_rxbWord]

theorem decodeOp_startWord (a : StartArgs) : decodeOp (startWord a) = .ok (startOf a) := by
  rw [decodeOp_of_startTop (topByte_startWord a), startFields_startWord]

/-- The word meets one of the ten conditions of R93's table. -/
def MeetsRow (w : OpWord) : Prop :=
  w = 0x0000000000000000#64 ∨ w.extractLsb' 8 56 = 0x10000000000000#56 ∨ w = 0x2000000000000000#64 ∨
    topByte w = 0x30#8 ∨ topByte w = 0x31#8 ∨ topByte w = 0x32#8 ∨ w = 0x4000000000000000#64 ∨
    w = 0x5000000000000000#64 ∨ w = 0x6000000000000000#64 ∨ w = 0x7000000000000000#64

theorem decodes_of_startTop {m : Mreq} (h : topByte w = 0x3#4 ++ 0#2 ++ mreqBits m) :
    ∃ i, decodeOp w = .ok i ∧ encode i = [w] :=
  ⟨_, decodeOp_of_startTop h, by rw [encode_startOf, startWord_startFields h]⟩

/-- A word that meets a condition is the encoder's word of the operation that it decodes to. -/
theorem decodes_of_meetsRow (h : MeetsRow w) : ∃ i, decodeOp w = .ok i ∧ encode i = [w] := by
  rcases h with rfl | h | rfl | h | h | h | rfl | rfl | rfl | rfl
  · exact ⟨.nop, rfl, rfl⟩
  · exact ⟨_, decodeOp_of_rxbUpper h, congrArg ([·]) (rxbWord_p2Field h)⟩
  · exact ⟨.poll, rfl, rfl⟩
  · exact decodes_of_startTop (m := .none) h
  · exact decodes_of_startTop (m := .manual) h
  · exact decodes_of_startTop (m := .auto) h
  · exact ⟨.timeout, rfl, rfl⟩
  · exact ⟨.txfail, rfl, rfl⟩
  · exact ⟨.flush, rfl, rfl⟩
  · exact ⟨.brst, rfl, rfl⟩

/-- R89: the illegal words are those that meet no condition. -/
theorem decodeOp_error_iff : (∃ r, decodeOp w = .error r) ↔ ¬ MeetsRow w := by
  constructor
  · rintro ⟨r, hr⟩ hrow
    obtain ⟨i, hi, -⟩ := decodes_of_meetsRow hrow
    cases hr.symm.trans hi
  · intro h
    simp only [MeetsRow, not_or] at h
    obtain ⟨hnop, hrxb, hpoll, hstart, hman, hauto, htimeout, htxfail, hflush, hbrst⟩ := h
    refine ⟨illegalReason w, ?_⟩
    rw [decodeOp, if_neg hnop, if_neg hrxb, if_neg hpoll, if_neg hstart, if_neg hman, if_neg hauto,
      if_neg htimeout, if_neg htxfail, if_neg hflush, if_neg hbrst]

/-- Decoding loses nothing of the word. -/
theorem encode_of_decodeOp {i : Instr} (h : decodeOp w = .ok i) : encode i = [w] := by
  have hrow : MeetsRow w := by
    by_contra hno
    obtain ⟨r, hr⟩ := decodeOp_error_iff.2 hno
    cases hr.symm.trans h
  obtain ⟨j, hj, henc⟩ := decodes_of_meetsRow hrow
  cases hj.symm.trans h
  exact henc

/-- The word of an operation decodes to it. -/
theorem decodeOp_of_isOperation {i : Instr} (h : i.isOperation = true) : ∃ w, encode i = [w] ∧ decodeOp w = .ok i := by
  cases i with
  | nop | poll | timeout | txfail | flush | brst => exact ⟨_, rfl, rfl⟩
  | rxb b => exact ⟨_, rfl, decodeOp_rxbWord b⟩
  | start | startMan | startAuto => exact ⟨_, rfl, decodeOp_startWord _⟩
  | resetHard | resetSoft | setAddr | setBaud | setUpModeAuto | setUpModeMan | setUpInt | setCommA | setCommB
  | setLed | setRelay | readDist | respConfig | frameDist => cases h

/-- Settles O9: each operation by its row, and each row's word by its fields. -/
theorem operationWordsRoundTrip : Obligations.OperationWordsRoundTrip :=
  ⟨fun _ => decodeOp_of_isOperation, fun _ _ => encode_of_decodeOp⟩

/-- Settles O7: the rows of formats B and S by their fields, the rows of one word by evaluation. -/
theorem wordsDecodeByTheTable : Obligations.WordsDecodeByTheTable := by
  intro w
  refine ⟨?_, decodeOp_of_rxbUpper, ?_, decodeOp_of_startTop (m := .none), decodeOp_of_startTop (m := .manual),
    decodeOp_of_startTop (m := .auto), ?_, ?_, ?_, ?_, decodeOp_error_iff⟩
  all_goals
    rintro rfl
    rfl

end Sys2Proof
end

section
/-! PROOFS. The family of 30_encoding.md: a line and the operation words it expands to. No operation reads the
transfers pending behind it, so the bytes of a sensor frame may leave the port one by one or with their line. -/

namespace Sys2Proof.Machine

variable {s : State}

/-! ### The pending transfers are not read -/

theorem complete_setPort (w : Frame) (p : List PortItem) (s : State) :
    complete w (setPort p s) = setPort p (complete w s) := by
  by_cases h : validate w s.expSync s.expCmd = .ok
  · rw [complete_of_ok (s := setPort p s) h, complete_of_ok h, setPort_expKind]
    split
    · simp only [recordSuccess_eq]
      rfl
    · rfl
  · rw [complete_of_bad (s := setPort p s) h, complete_of_bad h]
    rfl

theorem settle_setPort (p : List PortItem) (s : State) : settle (setPort p s) = setPort p (settle s) := by
  rcases settle_cases s with ⟨h, hshort⟩ | ⟨w, hwait, hq, h⟩ <;> rw [h]
  · exact settle_of_settled (s := setPort p s) hshort
  · rw [settle_of_window (s := setPort p s) hwait hq, complete_setPort]

theorem rxbMain_setPort (b : Byte) (p : List PortItem) (s : State) :
    rxbMain b (setPort p s) = setPort p (rxbMain b s) := by
  rw [rxbMain, rxbMain, setPort_q]
  split <;> rfl

/-! ### A run of operation words -/

theorem step_word_ok {w : OpWord} {i : Instr} {rest : List PortItem} (hport : s.port = .word w :: rest)
    (hw : decodeOp w = .ok i) : step s = exec i (setPort rest s) := by
  rw [step_cons s hport, fetchItem_word hw, runFetched_run]

theorem step_line {i : Instr} {rest : List PortItem} (hport : s.port = .line i :: rest) :
    step s = exec i (setPort rest s) := by
  rw [step_cons s hport, fetchItem_line, runFetched_run]

/-- A run of one step is that step. -/
theorem run_one (s : State) : Sys2Proof.core.run 1 s = step s := by
  have run : ∀ (M : Host.Core) (s : M.State), M.run 1 s = M.step s := by
    intro M s
    simp only [Host.Core.run]
    cases M.step s <;> rfl
  exact run Sys2Proof.core s

theorem run_zero (s : State) : Sys2Proof.core.run 0 s = .next s := rfl

/-- A run of RXB words delivers their bytes. -/
theorem run_rxbWords (rest : List PortItem) (bs : List Byte) :
    ∀ s : State, s.port = (bs.map rxbWord).map .word ++ rest →
      Sys2Proof.core.run bs.length s = .next (receive bs (setPort rest s)) := by
  induction bs with
  | nil =>
    intro s hport
    rw [List.length_nil, run_zero, receive_nil, ← show s.port = rest from hport]
    rfl
  | cons b bs ih =>
    intro s hport
    have hstep : step s = .next (setPort ((bs.map rxbWord).map .word ++ rest) (settle (rxbMain b s))) := by
      rw [step_word_ok hport (decodeOp_rxbWord b), exec_rxb, rxbMain_setPort, settle_setPort]
      rfl
    have hlater : receive bs (setPort rest (settle (rxbMain b s))) = receive (b :: bs) (setPort rest s) := by
      rw [receive_cons, rxbMain_setPort, settle_setPort]
    rw [← hlater]
    exact (run_succ hstep).trans (ih _ (setPort_port ..))

/-! ### The expansion of a line -/

theorem encode_of_startArgs {i : Instr} {a : StartArgs} (h : startArgsOf i = some a) : encode i = [startWord a] := by
  cases i <;> simp only [startArgsOf, Option.some.injEq, reduceCtorEq] at h <;> subst h <;> rfl

theorem encode_of_sensorFrame {i : Instr} {f : Frame} (h : sensorFrameOf i = some f) :
    encode i = f.bytes.map rxbWord := by
  cases i <;> simp only [sensorFrameOf, Option.some.injEq, reduceCtorEq] at h <;> subst h <;> rfl

/-- An instruction is an operation, or has START* operands, or is a sensor frame. -/
theorem isOperation_or_expands (i : Instr) :
    i.isOperation = true ∨ (∃ a, startArgsOf i = some a) ∨ ∃ f, sensorFrameOf i = some f := by
  rcases instr_cases i with rfl | ⟨b, rfl⟩ | rfl | rfl | rfl | rfl | rfl | h | h
  iterate 7 · exact .inl rfl
  · exact .inr (.inl h)
  · exact .inr (.inr h)

/-- An instruction outside the sensor's rows is one operation word, which does what the instruction does: its own
word, or the START* that a command expands to (R170). -/
theorem encode_runs_or_sensorFrame (i : Instr) :
    (∃ w j, encode i = [w] ∧ decodeOp w = .ok j ∧ ∀ s, exec j s = exec i s) ∨ ∃ f, sensorFrameOf i = some f := by
  rcases isOperation_or_expands i with hop | ⟨a, ha⟩ | hf
  · obtain ⟨w, henc, hw⟩ := decodeOp_of_isOperation hop
    exact .inl ⟨w, i, henc, hw, fun _ => rfl⟩
  · refine .inl ⟨startWord a, startOf a, encode_of_startArgs ha, decodeOp_startWord a, fun s => ?_⟩
    rw [exec_of_startArgs s (startArgsOf_startOf a), exec_of_startArgs s ha]
  · exact .inr hf

/-- Settles O38: one word that does the same, or a run of RXB words that delivers the frame. -/
theorem lineRunsAsItsExpansion : Obligations.LineRunsAsItsExpansion := by
  intro i s rest hport
  rw [step_line hport]
  rcases encode_runs_or_sensorFrame i with ⟨w, j, henc, hw, hexec⟩ | ⟨f, hf⟩
  · rw [henc, ← hexec]
    exact (run_one _).trans (step_word_ok rfl hw)
  · rw [encode_of_sensorFrame hf, exec_of_sensorFrame _ hf, List.length_map]
    exact run_rxbWords rest f.bytes _ rfl

end Sys2Proof.Machine
end

section
/-! PROOFS. The family of 30_encoding.md: the host's placement of a table row. -/

namespace Sys2Proof.Machine

/-- The transfer of a row's bits is fetched as the instruction that the bits are read as. -/
theorem fetchItem_tableItem {nbits n : Nat} {i : Instr} (h : decodeTableWord nbits n = some i) :
    fetchItem (tableItem nbits n) = .run i := by
  by_cases hword : nbits ≤ 64
  · rw [tableItem, if_pos hword]
    rw [decodeTableWord, if_pos hword] at h
    cases hw : decodeOp (BitVec.ofNat 64 n) with
    | ok j =>
      rw [hw] at h
      cases h
      exact fetchItem_word hw
    | error r =>
      rw [hw] at h
      cases h
  · rw [tableItem, if_neg hword]
    rw [decodeTableWord, if_neg hword] at h
    cases h
    rfl

/-- Settles O5: the step takes the placed transfer off the port again. -/
theorem placedRowRunsNext : Obligations.PlacedRowRunsNext := by
  intro s nbits n i h
  have hstep := step_cons (s.withFetchWord nbits n) (setPort_port ..)
  rw [fetchItem_tableItem h] at hstep
  exact hstep

end Sys2Proof.Machine
end

section
/-! PROOFS. The family of 30_encoding.md: the illegal words and what they do. -/

namespace Sys2Proof.Machine

variable {w : OpWord}

/-! ### Which words are illegal -/

/-- The OP codes, those from 0x8 up together. -/
theorem op_cases : ∀ op : BitVec 4,
    op = 0x0#4 ∨ op = 0x1#4 ∨ op = 0x2#4 ∨ op = 0x3#4 ∨ op = 0x4#4 ∨ op = 0x5#4 ∨ op = 0x6#4 ∨ op = 0x7#4 ∨
      0x8#4 ≤ op := by decide

/-- The ten conditions of R93 by OP and the bits that each fixes below it. -/
theorem meetsRow_iff_fields :
    MeetsRow w ↔
      (opField w = 0x0#4 ∧ w.extractLsb' 0 60 = 0#60) ∨ (opField w = 0x1#4 ∧ w.extractLsb' 8 52 = 0#52) ∨
      (opField w = 0x2#4 ∧ w.extractLsb' 0 60 = 0#60) ∨ (opField w = 0x3#4 ∧ w.extractLsb' 56 4 = 0x0#4) ∨
      (opField w = 0x3#4 ∧ w.extractLsb' 56 4 = 0x1#4) ∨ (opField w = 0x3#4 ∧ w.extractLsb' 56 4 = 0x2#4) ∨
      (opField w = 0x4#4 ∧ w.extractLsb' 0 60 = 0#60) ∨ (opField w = 0x5#4 ∧ w.extractLsb' 0 60 = 0#60) ∨
      (opField w = 0x6#4 ∧ w.extractLsb' 0 60 = 0#60) ∨ (opField w = 0x7#4 ∧ w.extractLsb' 0 60 = 0#60) := by
  simp only [← rxbUpper_iff, ← topByte_eq_append_iff, ← eq_zWord_iff]
  rfl

/-- R84, R94: the lower half of the top byte is none of the three mode requests exactly when MREQ is the reserved one
or one of the two bits above it is set. -/
theorem reservedRequest_iff :
    ¬ (w.extractLsb' 56 4 = 0x0#4 ∨ w.extractLsb' 56 4 = 0x1#4 ∨ w.extractLsb' 56 4 = 0x2#4) ↔
      w.extractLsb' 56 4 = 0x3#4 ∨ w.getLsbD 59 = true ∨ w.getLsbD 58 = true := by
  have values : ∀ n : BitVec 4, ¬ (n = 0x0#4 ∨ n = 0x1#4 ∨ n = 0x2#4) ↔
      n = 0x3#4 ∨ n.getLsbD 3 = true ∨ n.getLsbD 2 = true := by decide
  simpa [BitVec.getLsbD_extractLsb'] using values (w.extractLsb' 56 4)

/-- R89's list. -/
theorem not_meetsRow_iff :
    ¬ MeetsRow w ↔
      0x8#4 ≤ opField w ∨
      (opField w = 0x3#4 ∧ (w.extractLsb' 56 4 = 0x3#4 ∨ w.getLsbD 59 = true ∨ w.getLsbD 58 = true)) ∨
      (opField w = 0x1#4 ∧ w.extractLsb' 8 52 ≠ 0#52) ∨
      ((opField w = 0x0#4 ∨ opField w = 0x2#4 ∨ opField w = 0x4#4 ∨ opField w = 0x5#4 ∨ opField w = 0x6#4 ∨
        opField w = 0x7#4) ∧ w.extractLsb' 0 60 ≠ 0#60) := by
  rw [meetsRow_iff_fields, ← reservedRequest_iff]
  rcases op_cases (opField w) with h | h | h | h | h | h | h | h | h
  iterate 8 · simp [h]
  · have hne (op : BitVec 4) (hlt : op < 0x8#4) : opField w ≠ op := by
      rintro rfl
      exact absurd h (BitVec.not_le.2 hlt)
    simp [h, hne]

/-! ### What an illegal word does -/

/-- R141: in a settled state the settle phase has nothing to do. -/
theorem step_illegal {s : State} {r : IllegalWord} {rest : List PortItem} (hport : s.port = .word w :: rest)
    (hw : decodeOp w = .error r) (hs : s.Settled) : step s = .next (illegalMain w (setPort rest s)) := by
  rw [step_cons s hport, fetchItem_illegal hw, runFetched_illegal]
  exact congrArg _ (settle_of_settled (s := illegalMain w (setPort rest s)) hs)

/-- R29: without a reset ILL stays set. -/
theorem ill_stays {s t : State} (h : step s = .next t) (hill : s.ill = true) : t.ill = true ∨ nextResets s := by
  rcases step_cases h with ⟨-, rfl⟩ | ⟨f, rest, hf, htr⟩
  · exact .inl hill
  · rw [nextResets_iff hf]
    cases hreset : f.resets with
    | true => exact .inr rfl
    | false => exact .inl ((transfer_ill htr hreset).2 (.inl hill))

/-- Settles O8: R89 by the ten conditions of R93, R141 and R29 by the step. -/
theorem illegalWordsSetIllOnly : Obligations.IllegalWordsSetIllOnly :=
  ⟨fun _ => decodeOp_error_iff.trans not_meetsRow_iff, fun _ _ _ _ => step_illegal, fun _ _ => ill_stays⟩

end Sys2Proof.Machine
end

section
/-! PROOFS. The family of 30_encoding.md: frames as 72-bit values. -/

namespace Sys2Proof

open BitVec (extractLsb'_append_eq_of_le extractLsb'_append_eq_right extractLsb'_append_extractLsb'_eq_extractLsb')

/-- R95: the frame of a frame's 72 bits. The bytes below the wanted one are peeled off until it stands lowest. -/
theorem ofBits_toBits (f : Frame) : Frame.ofBits f.toBits = f := by
  rw [Frame.ofBits, Frame.mk.injEq, Frame.toBits]
  refine ⟨?_, ?_, ?_, ?_, ?_, ?_, ?_, ?_, ?_⟩
  all_goals repeat rw [extractLsb'_append_eq_of_le (by omega)]
  case refine_1 => exact BitVec.extractLsb'_eq_self
  all_goals exact extractLsb'_append_eq_right

/-- R95: the nine bytes put together again, each next to the field of those before it. -/
theorem toBits_ofBits (v : FrameBits) : (Frame.ofBits v).toBits = v := by
  rw [Frame.toBits, Frame.ofBits]
  repeat rw [extractLsb'_append_extractLsb'_eq_extractLsb' (by rfl)]
  exact BitVec.extractLsb'_eq_self

/-- R62, R95: byte `k` of a 72-bit value's frame. -/
theorem bytes_ofBits (v : FrameBits) {k : Nat} (hk : k < 9) :
    (Frame.ofBits v).bytes[k]? = some (v.extractLsb' (64 - 8 * k) 8) := by
  interval_cases k <;> rfl

/-- Settles O12: the bytes of a frame are those of its 72-bit value. -/
theorem frameBitsRoundTrip : Obligations.FrameBitsRoundTrip := by
  refine ⟨ofBits_toBits, toBits_ofBits, fun f k hk => ?_⟩
  have h := bytes_ofBits f.toBits hk
  rwa [ofBits_toBits] at h

end Sys2Proof
end

section
/-! PROOFS. The family of 40_codec.md. A bit of the exclusive-or fold is the parity of the bytes that have it set,
so every claim about errors in a frame is one about the fold of the flipped bits. -/

namespace Sys2Proof.Machine

/-! ### The fold -/

/-- R100: the order of the bytes is not seen. -/
theorem xorFold_perm {bs cs : List Byte} (h : bs.Perm cs) : xorFold bs = xorFold cs :=
  h.foldl_eq 0x00#8

/-- R100: two equal bytes cancel, wherever they stand. -/
theorem xorFold_cancel (b : Byte) (bs cs ds : List Byte) :
    xorFold (bs ++ b :: cs ++ b :: ds) = xorFold (bs ++ cs ++ ds) := by
  have hfront : (bs ++ b :: cs ++ b :: ds).Perm (b :: b :: (bs ++ cs ++ ds)) :=
    List.perm_middle.trans (.cons b (List.perm_middle.append_right ds))
  rw [xorFold_perm hfront, xorFold_cons, xorFold_cons, ← BitVec.xor_assoc, BitVec.xor_self, BitVec.zero_xor]

/-- A bit of the fold is the parity of the number of bytes in which it is set. -/
theorem getLsbD_xorFold (bs : List Byte) (j : Nat) :
    (xorFold bs).getLsbD j = decide ((bs.countP fun b => b.getLsbD j) % 2 = 1) := by
  induction bs with
  | nil => simp
  | cons b bs ih =>
    rw [xorFold_cons, BitVec.getLsbD_xor, ih, List.countP_cons]
    cases b.getLsbD j <;> grind

/-- R109: some bit position is set oddly often exactly when the bytes do not fold to zero. -/
theorem oddFlips_iff {bs : List Byte} : oddFlips bs ↔ xorFold bs ≠ 0x00#8 := by
  constructor
  · rintro ⟨j, -, hodd⟩ hzero
    have hbit := getLsbD_xorFold bs j
    simp [hzero, hodd] at hbit
  · intro hne
    by_contra hnone
    refine hne (BitVec.eq_of_getLsbD_eq fun j hj => ?_)
    rw [getLsbD_xorFold, BitVec.getLsbD_zero, decide_eq_false_iff_not]
    exact fun hodd => hnone ⟨j, hj, hodd⟩

theorem xorFold_zipWith_xor {bs cs : List Byte} (h : bs.length = cs.length) :
    xorFold (List.zipWith (· ^^^ ·) bs cs) = xorFold bs ^^^ xorFold cs := by
  induction bs generalizing cs with
  | nil => simp [List.length_eq_zero_iff.1 h.symm]
  | cons b bs ih =>
    obtain - | ⟨c, cs⟩ := cs
    · simp at h
    · simp only [List.zipWith_cons_cons, xorFold_cons, ih (Nat.succ.inj h)]
      ac_rfl

theorem xorFold_replicate_zero (n : Nat) : xorFold (List.replicate n 0x00#8) = 0x00#8 := by
  induction n with
  | zero => rfl
  | succ n ih => rw [List.replicate_succ, xorFold_cons, ih, BitVec.xor_self]

/-- One byte among zeros is their fold. -/
theorem xorFold_set_replicate_zero {n k : Nat} (hk : k < n) (b : Byte) :
    xorFold ((List.replicate n 0x00#8).set k b) = b := by
  rw [List.set_eq_take_append_cons_drop, if_pos (by simpa using hk), List.take_replicate, List.drop_replicate]
  simp [xorFold_replicate_zero]

/-! ### The fold of a frame -/

/-- The fold of all nine bytes is the checksum against the checksum byte. -/
theorem xorFold_bytes (f : Frame) : xorFold f.bytes = checksumOf f ^^^ f.checksum := by
  have hsplit : f.bytes = f.bytes.take 8 ++ [f.checksum] := rfl
  rw [hsplit, xorFold_append, xorFold_cons, xorFold_nil, BitVec.xor_zero]
  rfl

/-- R101: the checksum byte is right exactly when the nine bytes fold to zero. -/
theorem checksumOf_eq_checksum_iff {f : Frame} : checksumOf f = f.checksum ↔ xorFold f.bytes = 0x00#8 := by
  rw [xorFold_bytes, BitVec.xor_eq_zero_iff]

/-- The fold of a frame with flipped bits differs by the fold of the flips. -/
theorem xorFold_bytes_xor (f e : Frame) : xorFold (f.xor e).bytes = xorFold f.bytes ^^^ xorFold e.bytes :=
  xorFold_zipWith_xor (bs := f.bytes) (cs := e.bytes) rfl

/-- Flips in a valid frame leave the checksum right exactly when they fold to zero. -/
theorem checksumOf_xor_iff {f e : Frame} {es ec : Byte} (h : validate f es ec = .ok) :
    checksumOf (f.xor e) = (f.xor e).checksum ↔ xorFold e.bytes = 0x00#8 := by
  obtain ⟨hsum, -, -⟩ := validate_ok.1 h
  rw [checksumOf_eq_checksum_iff, xorFold_bytes_xor, checksumOf_eq_checksum_iff.1 hsum, BitVec.zero_xor]

/-- R104: with the checksum right, the pair test alone decides. -/
theorem validate_of_checksum {w : Frame} (es ec : Byte) (h : checksumOf w = w.checksum) :
    validate w es ec = if w.sync = es ∧ w.cmd = ec then .ok else .pairBad := by
  split <;> rename_i hpair
  · exact validate_ok.2 ⟨h, hpair⟩
  · exact validate_pairBad.2 ⟨h, Decidable.not_and_iff_or_not.1 hpair⟩

/-- Settles O24: the fold is invariant under permutation, and equal bytes are brought together by one. -/
theorem checksumIgnoresOrder : Obligations.ChecksumIgnoresOrder :=
  ⟨fun f => by rw [checksumOf_eq, BitVec.zero_xor], fun _ _ => xorFold_perm, xorFold_cancel⟩

/-- Settles O25, by the fold of a frame. -/
theorem checksumIsSelfInverse : Obligations.ChecksumIsSelfInverse :=
  fun _ => eq_comm.trans checksumOf_eq_checksum_iff

/-! ### Errors in a frame -/

/-- R109: the flips that Validate sees in a valid frame, whatever pair it expects. -/
theorem validate_xor_csumBad {f e : Frame} {es ec es' ec' : Byte} (h : validate f es ec = .ok) :
    validate (f.xor e) es' ec' = .csumBad ↔ oddFlips e.bytes := by
  rw [validate_csumBad, oddFlips_iff, ne_eq, checksumOf_xor_iff h]

/-- A single flipped bit is an odd number of flips in its position. -/
theorem oddFlips_single {bs : List Byte} {k j : Nat} (hk : k < 9) (hj : j < 8)
    (h : bs = (List.replicate 9 0x00#8).set k (BitVec.twoPow 8 j)) : oddFlips bs := by
  rw [oddFlips_iff, h, xorFold_set_replicate_zero hk]
  intro hzero
  have hbit := congrArg (BitVec.getLsbD · j) hzero
  simp [hj] at hbit

/-- Settles O27: a single flip is the case of one odd position. -/
theorem bitFlipsDetectedExactlyWhenOdd : Obligations.BitFlipsDetectedExactlyWhenOdd :=
  ⟨fun _ _ _ _ => validate_xor_csumBad,
    fun _ _ _ _ _ _ h hk hj he => (validate_xor_csumBad h).2 (oddFlips_single hk hj he)⟩

/-- R110: a reordering of bytes 0 to 7 keeps the checksum. -/
theorem checksumOf_perm {f g : Frame} (h : (f.bytes.take 8).Perm (g.bytes.take 8)) : checksumOf f = checksumOf g :=
  xorFold_perm h

/-- R110: bytes 5 and 6 exchanged. -/
theorem swap_data_perm (f : Frame) :
    (f.bytes.take 8).Perm (Frame.bytes { f with data0 := f.data1, data1 := f.data0 } |>.take 8) :=
  .append_left [f.sync, f.cmd, f.len, f.addrHi, f.addrLo] (.swap f.data1 f.data0 [f.status])

/-- Settles O28: in each clause the checksum is still right, so the pair test decides. -/
theorem evenFlipsAndReorderingsPass : Obligations.EvenFlipsAndReorderingsPass := by
  refine ⟨fun f e es ec es' ec' h heven => ?flips, fun f g es ec es' ec' h hperm hsum => ?reorder,
    fun f h => ⟨?swap, rfl⟩⟩
  case flips =>
    have hzero : xorFold e.bytes = 0x00#8 := by
      by_contra hne
      exact heven (oddFlips_iff.2 hne)
    exact validate_of_checksum es' ec' ((checksumOf_xor_iff h).2 hzero)
  case reorder =>
    obtain ⟨hf, -, -⟩ := validate_ok.1 h
    exact validate_of_checksum es' ec' (by rw [← checksumOf_perm hperm, hf, hsum])
  case swap =>
    obtain ⟨hf, hpair⟩ := validate_ok.1 h
    exact validate_ok.2 ⟨(checksumOf_perm (swap_data_perm f)).symm.trans hf, hpair⟩

/-! ### BuildFrame, Decode, Validate and Classify -/

/-- R11: the big-endian value of two bytes. -/
theorem toNat_cat16 (hi lo : Byte) : (cat16 hi lo).toNat = hi.toNat * 256 + lo.toNat := by
  rw [cat16, BitVec.toNat_append, ← Nat.shiftLeft_add_eq_or_of_lt lo.isLt, Nat.shiftLeft_eq]

/-- Settles O21: the checksum written out, and the big-endian value of two bytes. -/
theorem buildFrameAndDecodeLayout : Obligations.BuildFrameAndDecodeLayout := by
  refine ⟨fun sync cmd addr p0 p1 p2 => ?_, fun w => ⟨toNat_cat16 .., toNat_cat16 .., rfl⟩⟩
  have hsum := checksumOf_buildFrame sync cmd addr p0 p1 p2
  rw [checksumOf_eq] at hsum
  rw [Frame.bytes, ← hsum]
  rfl

/-- Settles O22, by the three results of Validate. -/
theorem validateRule : Obligations.ValidateRule :=
  fun _ _ _ => ⟨validate_csumBad, validate_pairBad, validate_ok⟩

/-- Settles O23, by the rows of Classify. -/
theorem classifyRule : Obligations.ClassifyRule :=
  fun kind status => ⟨classify_csumBad kind status, classify_pairBad kind status, classify_dist status,
    classify_ack, fun h => (classify_config status).trans (if_neg h)⟩

/-- R108: Decode recovers the operands of BuildFrame. -/
theorem fieldsOf_buildFrame (sync cmd : Byte) (addr : Half) (p0 p1 p2 : Byte) :
    fieldsOf (buildFrame sync cmd addr p0 p1 p2) = ⟨addr, cat16 p0 p1, p2⟩ := by
  rw [fieldsOf, buildFrame_addrHi, buildFrame_addrLo, cat16_hi8_lo8, buildFrame_data0, buildFrame_data1,
    buildFrame_status]

/-- Settles O26: a built frame has its own checksum and pair, and Decode undoes the byte order. -/
theorem builtFramesValidateAndDecode : Obligations.BuiltFramesValidateAndDecode :=
  fun sync cmd addr p0 p1 p2 => ⟨validate_ok.2 ⟨checksumOf_buildFrame .., buildFrame_sync .., buildFrame_cmd ..⟩,
    fieldsOf_buildFrame sync cmd addr p0 p1 p2⟩

end Sys2Proof.Machine
end

section
/-! PROOFS. The family of 41_block_ops.md: the operations, rule by rule. Each main phase has one equation per
branch; after it the settle phase finds a settled state and adds nothing, or completes on the window. -/

namespace Sys2Proof.Machine

variable {s : State}

/-! ### The branches of the main phases -/

/-- R133: there is room for the byte. -/
theorem rxbMain_of_room (b : Byte) (h : s.q.length < Config.rxqDepth) :
    rxbMain b s = emit .done (setQueue (s.q ++ [b]) s) := if_pos h

/-- R133: the queue is full. -/
theorem rxbMain_of_full (b : Byte) (h : Config.rxqDepth ≤ s.q.length) :
    rxbMain b s = emit (.overrun b) (setOvr s) := if_neg (by omega)

theorem pollMain_of_wait (h : s.exst = .wait) : pollMain s = emit .pollBusy s := if_pos h

theorem pollMain_of_manual (hidle : s.exst = .idle) (h : s.mode = .manual) :
    pollMain s = emit .pollNotAuto s := by
  simp [pollMain, hidle, h]

theorem pollMain_of_short (hidle : s.exst = .idle) (hauto : s.mode = .auto) (h : s.q.length < 9) :
    pollMain s = emit .pollNone s := by
  simp [pollMain, hidle, hauto, peek9_eq_none.2 h]

/-- R134: a valid window is taken whole. -/
theorem pollMain_of_valid {w : Frame} (hidle : s.exst = .idle) (hauto : s.mode = .auto)
    (hw : peek9 s.q = some w) (hvalid : validate w 0x62#8 0x33#8 = .ok) :
    pollMain s = emit (sampleOf w) (storeSample (fieldsOf w) (setQueue (s.q.drop 9) s)) := by
  simp [pollMain, hidle, hauto, hw, hvalid, sampleOf, fieldsOf]

/-- R134: an invalid window costs its first byte. -/
theorem pollMain_of_invalid {w : Frame} (hidle : s.exst = .idle) (hauto : s.mode = .auto)
    (hw : peek9 s.q = some w) (hinvalid : validate w 0x62#8 0x33#8 ≠ .ok) :
    pollMain s = emit (.discard w.sync) (setQueue s.q.tail s) := by
  simp [pollMain, hidle, hauto, hw, hinvalid]

theorem startMain_of_wait (a : StartArgs) (h : s.exst = .wait) : startMain a s = emit (.rejected .busy) s := if_pos h

theorem startMain_of_conflict {a : StartArgs} (hidle : s.exst = .idle) (hkind : kindOf a.sync a.cmd = .dist)
    (hauto : s.mode = .auto) : startMain a s = refuseStart .modeConflict s := by
  simp [startMain, hidle, hkind, hauto]

theorem isSetAddressPair_iff {sync cmd : Byte} :
    isSetAddressPair sync cmd = true ↔ sync = 0x62#8 ∧ cmd = 0x32#8 := by
  simp [isSetAddressPair]

/-- The pair of SetAddress is not the distance pair, so the mode does not refuse it. -/
theorem startMain_of_badParam {a : StartArgs} (hidle : s.exst = .idle) (hpair : isSetAddressPair a.sync a.cmd = true)
    (haddr : Config.addrMax < cat16 a.p0 a.p1) : startMain a s = refuseStart .paramError s := by
  have hkind : kindOf a.sync a.cmd ≠ .dist := fun hdist => by
    obtain ⟨-, hcmd⟩ := isSetAddressPair_iff.1 hpair
    obtain ⟨-, hcmd'⟩ := kindOf_dist.1 hdist
    exact absurd (hcmd.symm.trans hcmd') (by decide)
  rw [startMain, if_neg (by simp [hidle]), if_neg fun h => hkind h.1, if_pos ⟨hpair, haddr⟩]

/-- R135: neither refusal applies. -/
theorem startMain_of_accepted {a : StartArgs} (hidle : s.exst = .idle)
    (hmode : ¬ (kindOf a.sync a.cmd = .dist ∧ s.mode = .auto))
    (hparam : ¬ (isSetAddressPair a.sync a.cmd = true ∧ Config.addrMax < cat16 a.p0 a.p1)) :
    startMain a s = opened s a.mreq a.sync a.cmd (commandFrame a) := by
  rw [startMain, if_neg (by simp [hidle]), if_neg hmode, if_neg hparam, acceptStart_eq_opened]

theorem reportMain_of_wait (o : OutcomeCode) (h : s.exst = .wait) :
    reportMain o s = emit (.exchDone o) (endExchange o s) := if_pos h

theorem reportMain_of_idle (o : OutcomeCode) (h : s.exst = .idle) : reportMain o s = emit .ignored s :=
  if_neg (by simp [h])

/-! ### BRST, NOP and FLUSH -/

/-- The registers do not show the history or the pending transfers (R34 to R40). -/
theorem readReg_of_reset (events : List Event) (port : List PortItem) (idx : BitVec 8) :
    readReg { State.reset with events := events, port := port } idx = 0#32 :=
  readReg_reset idx

/-- Settles O2: BRST and the reset input leave the named reset state. -/
theorem brstResetsAndKeepsTheHistory : Obligations.BrstResetsAndKeepsTheHistory := by
  refine ⟨rfl, fun s => ⟨exec_brst_eq s, fun t h idx => ?_, ?_⟩⟩
  · rw [exec_brst_eq] at h
    cases h
    exact readReg_of_reset (s.events ++ [.done]) s.port idx
  · rintro u rest hport rfl
    exact ⟨_, _, exec_brst_eq _, step_cons u hport, rfl⟩

/-- Settles O13: NOP leaves a settled state settled. -/
theorem nopRule : Obligations.NopRule :=
  ⟨rfl, fun s hs => congrArg _ (settle_of_settled (s := nopMain s) hs)⟩

/-- Settles O19: the empty queue leaves the settle phase no window. -/
theorem flushRule : Obligations.FlushRule :=
  ⟨rfl, fun s => congrArg _ (settle_of_short (s := flushMain s) (Nat.zero_lt_succ _))⟩

/-! ### The step -/

/-- Settles O4: by the fetch of each kind of transfer. -/
theorem stepRunsTheNextTransfer : Obligations.StepRunsTheNextTransfer :=
  ⟨fun _ _ _ _ => step_word_ok, fun _ _ _ => step_line, fun s => step_nil s⟩

/-! ### Completion -/

/-- The mode after a success is the one confirmed, else the one before. -/
theorem modeAfter_eq (s : State) : modeAfter s = (confirmedMode s).getD s.mode := by
  have hpair : isSetUploadModePair s.expSync s.expCmd = true ↔ s.expSync = 0x62#8 ∧ s.expCmd = 0x34#8 := by
    simp [isSetUploadModePair]
  unfold modeAfter confirmedMode
  simp only [hpair]
  split
  · cases s.expMreq <;> rfl
  · rfl

/-- R132 on a frame that is not structurally valid. -/
theorem complete_of_invalid {w : Frame} {rest : List Byte} (hq : s.q = w.bytes ++ rest)
    (hv : validate w s.expSync s.expCmd ≠ .ok) :
    complete w s =
      { s with q := rest, outcome := classify s.expKind (validate w s.expSync s.expCmd) w.status, exst := .idle,
               events := s.events ++
                 [.exchDone (classify s.expKind (validate w s.expSync s.expCmd) w.status)] } := by
  rw [complete_of_bad hv, hq, drop_bytes_append]
  rfl

/-- R132 on a valid frame that is the device's refusal. -/
theorem complete_of_rejected {w : Frame} {rest : List Byte} (hq : s.q = w.bytes ++ rest)
    (hv : validate w s.expSync s.expCmd = .ok) (ho : classify s.expKind .ok w.status = .deviceRejected) :
    complete w s =
      { s with q := rest, outcome := .deviceRejected, exst := .idle,
               respAddr := cat16 w.addrHi w.addrLo, respData := cat16 w.data0 w.data1, respStatus := w.status,
               events := s.events ++ [.exchDoneResp .deviceRejected (cat16 w.addrHi w.addrLo)
                 (cat16 w.data0 w.data1) w.status] } := by
  rw [complete_of_ok hv, ho, if_neg (by decide), hq, drop_bytes_append]
  rfl

/-- R132 on a success: the sample of a distance exchange, the mode of a confirmed mode exchange. -/
theorem complete_of_success {w : Frame} {rest : List Byte} (hq : s.q = w.bytes ++ rest)
    (hv : validate w s.expSync s.expCmd = .ok) (ho : classify s.expKind .ok w.status = .success) :
    complete w s =
      { s with q := rest, outcome := .success, exst := .idle,
               respAddr := cat16 w.addrHi w.addrLo, respData := cat16 w.data0 w.data1, respStatus := w.status,
               mode := modeAfter s,
               lastAddr := if s.expKind = .dist then cat16 w.addrHi w.addrLo else s.lastAddr,
               lastDist := if s.expKind = .dist then cat16 w.data0 w.data1 else s.lastDist,
               lastValid := if s.expKind = .dist then true else s.lastValid,
               events := s.events ++ [.exchDoneResp .success (cat16 w.addrHi w.addrLo)
                 (cat16 w.data0 w.data1) w.status] } := by
  rw [complete_of_ok hv, ho, if_pos rfl, hq, drop_bytes_append, recordSuccess_eq, modeAfter_eq]
  rfl

/-- Settles O20: the verdict, and of a valid frame the kind and the status, choose the branch of Complete. -/
theorem settleCompletesTheExchange : Obligations.SettleCompletesTheExchange := by
  refine ⟨fun s h => h.elim settle_of_idle settle_of_short, fun s w rest hwait hq => ?_⟩
  rw [settle_of_window hwait hq]
  refine ⟨fun hv => ?csumBad, fun hv => ?pairBad, fun hv hkind hst => ?rejected, fun hv hkind hst => ?ack,
    fun hv hkind => ?dist⟩
  case csumBad => rw [complete_of_invalid hq (by simp [hv]), hv, classify_csumBad]
  case pairBad => rw [complete_of_invalid hq (by simp [hv]), hv, classify_pairBad]
  case rejected =>
    exact complete_of_rejected hq hv (by rw [hkind, classify_config, if_neg hst])
  case ack =>
    rw [complete_of_success hq hv (by rw [hkind, hst, classify_ack]), hkind]
    rfl
  case dist =>
    rw [complete_of_success hq hv (by rw [hkind, classify_dist]), hkind]
    rfl

/-! ### RXB -/

/-- Settles O14: the queue's length after the byte decides whether the settle phase completes. -/
theorem rxbRule : Obligations.RxbRule := by
  refine ⟨decodeOp_rxbWord, fun b s hroom hshort => ?stored, fun b s w hwait hq => ?ninth,
    fun b s hfull hs => ?full⟩
  case stored =>
    have hsettled : (emit .done (setQueue (s.q ++ [b]) s)).Settled := fun hwait => by
      rcases hshort with hidle | hlen
      · exact absurd (hidle.symm.trans hwait) (by decide)
      · rw [emit_q, setQueue_q, List.length_append, List.length_singleton]
        omega
    rw [exec_rxb, rxbMain_of_room b hroom, settle_of_settled hsettled]
    rfl
  case ninth =>
    have hlen : s.q.length = 8 := by simpa using congrArg List.length hq
    have hroom : s.q.length < Config.rxqDepth := by
      have hdepth := rxqDepth_bounds.1
      omega
    have hwindow : (emit .done (setQueue (s.q ++ [b]) s)).q = w.bytes ++ [] := by simpa using hq
    rw [exec_rxb, rxbMain_of_room b hroom]
    exact congrArg _ (settle_of_window hwait hwindow)
  case full =>
    rw [exec_rxb, rxbMain_of_full b hfull]
    exact congrArg _ (settle_of_settled (s := emit (.overrun b) (setOvr s)) hs)

/-! ### POLL -/

/-- POLL on a valid window: the sample stored and its bytes taken. -/
theorem exec_poll_of_valid {w : Frame} (hidle : s.exst = .idle) (hauto : s.mode = .auto)
    (hw : peek9 s.q = some w) (hvalid : validate w 0x62#8 0x33#8 = .ok) :
    exec .poll s = .next { s with q := s.q.drop 9, lastAddr := cat16 w.addrHi w.addrLo,
                                  lastDist := cat16 w.data0 w.data1, lastValid := true,
                                  events := s.events ++ [sampleOf w] } := by
  rw [exec_poll, pollMain_of_valid hidle hauto hw hvalid]
  exact congrArg _ (settle_of_idle hidle)

/-- POLL on an invalid window: its first byte discarded. -/
theorem exec_poll_of_invalid {w : Frame} (hidle : s.exst = .idle) (hauto : s.mode = .auto)
    (hw : peek9 s.q = some w) (hinvalid : validate w 0x62#8 0x33#8 ≠ .ok) :
    exec .poll s = .next { s with q := s.q.tail, events := s.events ++ [.discard w.sync] } := by
  rw [exec_poll, pollMain_of_invalid hidle hauto hw hinvalid]
  exact congrArg _ (settle_of_idle hidle)

/-- POLL on fewer than nine bytes: none is discarded. -/
theorem exec_poll_of_short (hidle : s.exst = .idle) (hauto : s.mode = .auto) (h : s.q.length < 9) :
    exec .poll s = .next { s with events := s.events ++ [.pollNone] } := by
  rw [exec_poll, pollMain_of_short hidle hauto h]
  exact congrArg _ (settle_of_idle hidle)

/-- Settles O15, by POLL's five branches. -/
theorem pollRule : Obligations.PollRule := by
  refine ⟨rfl, fun s hwait hshort => ?busy, fun s hidle hmanual => ?manual, fun s => exec_poll_of_short,
    fun s w rest hidle hauto hq hvalid => ?valid, fun s w rest hidle hauto hq hinvalid => ?invalid⟩
  case busy =>
    rw [exec_poll, pollMain_of_wait hwait]
    exact congrArg _ (settle_of_short hshort)
  case manual =>
    rw [exec_poll, pollMain_of_manual hidle hmanual]
    exact congrArg _ (settle_of_idle hidle)
  case valid =>
    rw [exec_poll_of_valid hidle hauto (by rw [hq, peek9_bytes_append]) hvalid, hq, drop_bytes_append]
  case invalid => exact exec_poll_of_invalid hidle hauto (by rw [hq, peek9_bytes_append]) hinvalid

/-! ### START, START.MAN and START.AUTO -/

/-- A START* that finds an exchange outstanding, under R31. -/
theorem settle_startMain_busy (a : StartArgs) (hwait : s.exst = .wait) (hshort : s.q.length < 9) :
    settle (startMain a s) = { s with events := s.events ++ [.rejected .busy] } := by
  rw [startMain_of_wait a hwait]
  exact settle_of_short hshort

/-- A refused START* leaves IDLE. -/
theorem settle_refuseStart (o : OutcomeCode) (hidle : s.exst = .idle) :
    settle (refuseStart o s) = { s with outcome := o, events := s.events ++ [.rejected o] } :=
  settle_of_idle (s := refuseStart o s) hidle

theorem exec_startInstr (m : Mreq) (sync cmd : Byte) (addr : Half) (p0 p1 p2 : Byte) (s : State) :
    exec (startInstr m sync cmd addr p0 p1 p2) s = .next (settle (startMain ⟨m, sync, cmd, addr, p0, p1, p2⟩ s)) :=
  exec_of_startArgs s (startArgsOf_startOf ⟨m, sync, cmd, addr, p0, p1, p2⟩)

/-- START* where the pair and the address say in the rule's own terms that it is accepted. -/
theorem startMain_of_not_refused {a : StartArgs} (hidle : s.exst = .idle)
    (hmode : ¬ (a.sync = 0x62#8 ∧ a.cmd = 0x33#8 ∧ s.mode = .auto))
    (hparam : ¬ (a.sync = 0x62#8 ∧ a.cmd = 0x32#8 ∧ 0xFFFE < (cat16 a.p0 a.p1).toNat)) :
    startMain a s = opened s a.mreq a.sync a.cmd (commandFrame a) := by
  refine startMain_of_accepted hidle ?_ ?_
  · rwa [kindOf_dist, and_assoc]
  · rwa [isSetAddressPair_iff, and_assoc]

/-- Settles O16: the refusals in their order; an accepted START* waits, or completes on stale bytes. -/
theorem startRule : Obligations.StartRule := by
  intro m sync cmd addr p0 p1 p2
  refine ⟨decodeOp_startWord ⟨m, sync, cmd, addr, p0, p1, p2⟩, fun s hwait hshort => ?busy,
    fun s hidle hsync hcmd hauto => ?conflict, fun s hidle hsync hcmd haddr => ?badParam,
    fun s hidle hmode hparam hshort => ?opened, fun s w rest hidle hmode hparam hq => ?stale⟩
  all_goals rw [exec_startInstr]
  case busy => rw [settle_startMain_busy _ hwait hshort]
  case conflict =>
    rw [startMain_of_conflict hidle (kindOf_dist.2 ⟨hsync, hcmd⟩) hauto, settle_refuseStart _ hidle]
  case badParam =>
    have haddr' : Config.addrMax < cat16 p0 p1 := BitVec.lt_def.2 haddr
    rw [startMain_of_badParam (a := ⟨m, sync, cmd, addr, p0, p1, p2⟩) hidle
      (isSetAddressPair_iff.2 ⟨hsync, hcmd⟩) haddr', settle_refuseStart _ hidle]
  case opened =>
    rw [startMain_of_not_refused hidle hmode hparam]
    exact congrArg _ (settle_of_short (s := opened s m sync cmd _) hshort)
  case stale =>
    rw [startMain_of_not_refused hidle hmode hparam]
    exact congrArg _ (settle_of_window (s := opened s m sync cmd _) rfl hq)

/-- Settles O33: a command runs START* on its operands, and START* finds the exchange first of all. -/
theorem commandsAreRefusedWhileBusy : Obligations.CommandsAreRefusedWhileBusy := by
  intro i a s ha hwait hshort
  rw [exec_of_startArgs s ha, settle_startMain_busy a hwait hshort]

/-! ### TIMEOUT and TXFAIL -/

/-- A report in WAIT ends the exchange and keeps the queue. -/
theorem settle_reportMain_of_wait (o : OutcomeCode) (h : s.exst = .wait) :
    settle (reportMain o s) = { s with outcome := o, exst := .idle, events := s.events ++ [.exchDone o] } := by
  rw [reportMain_of_wait o h]
  exact settle_of_idle (endExchange_exst s o)

/-- A report in IDLE is ignored. -/
theorem settle_reportMain_of_idle (o : OutcomeCode) (h : s.exst = .idle) :
    settle (reportMain o s) = { s with events := s.events ++ [.ignored] } := by
  rw [reportMain_of_idle o h]
  exact settle_of_idle h

/-- Settles O17: a report of the outcome TIMEOUT. -/
theorem timeoutRule : Obligations.TimeoutRule :=
  ⟨rfl, fun _ h => congrArg _ (settle_reportMain_of_wait .timeout h),
    fun _ h => congrArg _ (settle_reportMain_of_idle .timeout h)⟩

/-- Settles O18: a report of the outcome TRANSPORT_ERROR. -/
theorem txfailRule : Obligations.TxfailRule :=
  ⟨rfl, fun _ h => congrArg _ (settle_reportMain_of_wait .transportError h),
    fun _ h => congrArg _ (settle_reportMain_of_idle .transportError h)⟩

end Sys2Proof.Machine
end

section
/-! PROOFS. The family of 41_block_ops.md: the laws of the resynchronizer. In AUTO and IDLE a POLL word at the port
samples, discards or finds too few bytes; a run of them is followed from window to window. -/

namespace Sys2Proof.Machine

variable {s : State}

/-! ### One POLL word -/

/-- The state in which section 4 of 41_block_ops.md states its laws. -/
structure State.Streaming (s : State) : Prop where
  idle : s.exst = .idle
  auto : s.mode = .auto

/-- The state after the sample of the window `w`, whose bytes end at the head of `rest`, and the pending transfers
`p` (R134). -/
def sampled (w : Frame) (rest : List Byte) (p : List PortItem) (s : State) : State :=
  { s with q := rest, port := p, lastAddr := cat16 w.addrHi w.addrLo, lastDist := cat16 w.data0 w.data1,
           lastValid := true, events := s.events ++ [sampleOf w] }

theorem State.Streaming.sampled (h : s.Streaming) (w : Frame) (rest : List Byte) (p : List PortItem) :
    (sampled w rest p s).Streaming := ⟨h.idle, h.auto⟩

/-- The state after a POLL discarded `b`, the byte before `rest` (R134). -/
def discarded (b : Byte) (rest : List Byte) (p : List PortItem) (s : State) : State :=
  { s with q := rest, port := p, events := s.events ++ [.discard b] }

theorem State.Streaming.discarded (h : s.Streaming) (b : Byte) (rest : List Byte) (p : List PortItem) :
    (discarded b rest p s).Streaming := ⟨h.idle, h.auto⟩

theorem step_pollWord {p : List PortItem} (hport : s.port = .word pollWord :: p) :
    step s = exec .poll (setPort p s) :=
  step_word_ok hport rfl

theorem step_poll_of_valid {w : Frame} {p : List PortItem} (hs : s.Streaming)
    (hport : s.port = .word pollWord :: p) (hw : peek9 s.q = some w) (hvalid : validate w 0x62#8 0x33#8 = .ok) :
    step s = .next (sampled w (s.q.drop 9) p s) :=
  (step_pollWord hport).trans (exec_poll_of_valid (s := setPort p s) hs.idle hs.auto hw hvalid)

theorem step_poll_of_short {p : List PortItem} (hs : s.Streaming) (hport : s.port = .word pollWord :: p)
    (hshort : s.q.length < 9) :
    step s = .next { s with port := p, events := s.events ++ [.pollNone] } :=
  (step_pollWord hport).trans (exec_poll_of_short (s := setPort p s) hs.idle hs.auto hshort)

/-- A window that POLL does not accept costs the byte at the head. -/
theorem step_poll_of_invalid {w : Frame} {p : List PortItem} (hs : s.Streaming)
    (hport : s.port = .word pollWord :: p) (hw : peek9 s.q = some w) (hinvalid : validate w 0x62#8 0x33#8 ≠ .ok) :
    step s = .next (discarded w.sync s.q.tail p s) :=
  (step_pollWord hport).trans (exec_poll_of_invalid (s := setPort p s) hs.idle hs.auto hw hinvalid)

/-! ### Windows -/

theorem validWindow_of_peek9 {bs : List Byte} {w : Frame} (hw : peek9 bs = some w) :
    validWindow bs = true ↔ validate w 0x62#8 0x33#8 = .ok := by
  simp [validWindow, hw]

/-- A valid window is nine bytes that Validate accepts. -/
theorem validWindow_iff {bs : List Byte} :
    validWindow bs = true ↔ ∃ w, peek9 bs = some w ∧ validate w 0x62#8 0x33#8 = .ok := by
  cases hw : peek9 bs with
  | none => simp [validWindow, hw]
  | some w => simp [validWindow_of_peek9 hw]

/-- A window has nine bytes. -/
theorem length_of_peek9 {bs : List Byte} {w : Frame} (h : peek9 bs = some w) : 9 ≤ bs.length := by
  by_contra hlt
  cases (peek9_eq_none.2 (Nat.lt_of_not_le hlt)).symm.trans h

/-- A byte with a window somewhere behind it stands at the head of a window itself. -/
theorem exists_peek9_cons {b : Byte} {bs : List Byte} {k : Nat} {w : Frame} (h : peek9 (bs.drop k) = some w) :
    ∃ u, peek9 (b :: bs) = some u ∧ u.sync = b := by
  have hlen : 9 ≤ (b :: bs).length := by
    have hdrop := length_of_peek9 h
    rw [List.length_drop] at hdrop
    rw [List.length_cons]
    omega
  obtain ⟨u, hu⟩ := exists_window hlen
  exact ⟨u, peek9_eq_some.2 hu, (List.cons.inj hu).1.symm⟩

/-- The first valid window at or before a valid one. -/
theorem exists_first_window {bs : List Byte} {n : Nat} (h : validWindow (bs.drop n) = true) :
    ∃ k w, k ≤ n ∧ peek9 (bs.drop k) = some w ∧ validate w 0x62#8 0x33#8 = .ok ∧
      ∀ j, j < k → validWindow (bs.drop j) = false := by
  classical
  have hex : ∃ n, validWindow (bs.drop n) = true := ⟨n, h⟩
  obtain ⟨w, hw, hvalid⟩ := validWindow_iff.1 (Nat.find_spec hex)
  exact ⟨Nat.find hex, w, Nat.find_min' hex h, hw, hvalid, fun j hj => Bool.eq_false_iff.2 (Nat.find_min hex hj)⟩

/-! ### Progress -/

theorem length_drop_lt {bs : List Byte} (h : 9 ≤ bs.length) : (bs.drop 9).length < bs.length := by
  rw [List.length_drop]
  omega

theorem length_tail_lt {bs : List Byte} (h : 9 ≤ bs.length) : bs.tail.length < bs.length := by
  rw [List.length_tail]
  omega

/-- One POLL of a run: it answers PollNone, or samples or discards and shortens the queue (R143). -/
theorem step_poll_progress {p : List PortItem} (hs : s.Streaming) (hport : s.port = .word pollWord :: p) :
    ∃ t e, step s = .next t ∧ t.Streaming ∧ t.port = p ∧ t.events = s.events ++ [e] ∧
      ((e = .pollNone ∧ t.q = s.q) ∨ (9 ≤ s.q.length ∧ t.q.length < s.q.length)) := by
  cases hw : peek9 s.q with
  | none =>
    exact ⟨_, .pollNone, step_poll_of_short hs hport (peek9_eq_none.1 hw), ⟨hs.idle, hs.auto⟩, rfl, rfl,
      .inl ⟨rfl, rfl⟩⟩
  | some w =>
    have hlen : 9 ≤ s.q.length := length_of_peek9 hw
    by_cases hvalid : validate w 0x62#8 0x33#8 = .ok
    · exact ⟨_, sampleOf w, step_poll_of_valid hs hport hw hvalid, hs.sampled .., rfl, rfl,
        .inr ⟨hlen, length_drop_lt hlen⟩⟩
    · exact ⟨_, .discard w.sync, step_poll_of_invalid hs hport hw hvalid, hs.discarded .., rfl, rfl,
        .inr ⟨hlen, length_tail_lt hlen⟩⟩

/-- R143 for a run of POLLs: every one answers, and each answer but PollNone costs the queue a byte. -/
theorem run_polls_progress (p : List PortItem) (n : Nat) :
    ∀ s : State, s.Streaming → s.port = List.replicate n (.word pollWord) ++ p →
      ∃ (t : State) (fresh : List Event), Sys2Proof.core.run n s = .next t ∧ t.events = s.events ++ fresh ∧
        fresh.length = n ∧ fresh.countP (fun e => e != .pollNone) ≤ s.q.length - 8 := by
  induction n with
  | zero => exact fun s _ _ => ⟨s, [], run_zero s, by simp, rfl, Nat.zero_le _⟩
  | succ n ih =>
    intro s hs hport
    obtain ⟨t, e, hstep, ht, htport, hevents, hq⟩ := step_poll_progress hs hport
    obtain ⟨u, fresh, hrun, hfresh, hlen, hcount⟩ := ih t ht htport
    refine ⟨u, e :: fresh, (run_succ hstep).trans hrun, by rw [hfresh, hevents, List.append_assoc]; rfl,
      by rw [List.length_cons, hlen], ?_⟩
    rcases hq with ⟨rfl, hq⟩ | ⟨hlong, hshorter⟩
    · rwa [List.countP_cons_of_neg (by simp), ← hq]
    · have hle : (e :: fresh).countP (fun e => e != .pollNone) ≤ fresh.countP (fun e => e != .pollNone) + 1 := by
        rw [List.countP_cons]
        split <;> omega
      omega

/-- Settles O50: one POLL on a window, and the run. -/
theorem pollMakesProgress : Obligations.PollMakesProgress := by
  refine ⟨fun s hidle hauto hlen => ?_, fun n s later hidle hauto => run_polls_progress later n s ⟨hidle, hauto⟩⟩
  obtain ⟨w, hw⟩ := exists_window hlen
  have hpeek := peek9_eq_some.2 hw
  by_cases hvalid : validate w 0x62#8 0x33#8 = .ok
  · exact ⟨_, exec_poll_of_valid hidle hauto hpeek hvalid, length_drop_lt hlen⟩
  · exact ⟨_, exec_poll_of_invalid hidle hauto hpeek hvalid, length_tail_lt hlen⟩

/-! ### Minimal discard -/

/-- R144, by induction on the offset of the first valid window. -/
theorem run_polls_to_window (w : Frame) (p : List PortItem) (hvalid : validate w 0x62#8 0x33#8 = .ok) (k : Nat) :
    ∀ s : State, s.Streaming → peek9 (s.q.drop k) = some w →
      (∀ j, j < k → validWindow (s.q.drop j) = false) →
      s.port = List.replicate (k + 1) (.word pollWord) ++ p →
      Sys2Proof.core.run (k + 1) s =
        .next (sampled w (s.q.drop (k + 9)) p
          { s with events := s.events ++ (s.q.take k).map .discard }) := by
  induction k with
  | zero =>
    intro s hs hw _ hport
    have hport' : s.port = .word pollWord :: p := hport
    rw [run_one, step_poll_of_valid hs hport' hw hvalid, Nat.zero_add, List.take_zero, List.map_nil, List.append_nil]
    rfl
  | succ k ih =>
    intro s hs hw hfirst hport
    cases hq : s.q with
    | nil => simp [hq, peek9] at hw
    | cons b bs =>
      rw [hq, List.drop_succ_cons] at hw
      obtain ⟨u, hu, rfl⟩ := exists_peek9_cons (b := b) hw
      have hinvalid : validate u 0x62#8 0x33#8 ≠ .ok := fun h => by
        have h0 := hfirst 0 (Nat.succ_pos k)
        rw [List.drop_zero, hq, (validWindow_of_peek9 hu).2 h] at h0
        cases h0
      have hfirst' (j : Nat) (hj : j < k) : validWindow (bs.drop j) = false := by
        simpa [hq] using hfirst (j + 1) (Nat.succ_lt_succ hj)
      have hport' : s.port = .word pollWord :: (List.replicate (k + 1) (.word pollWord) ++ p) := hport
      have hstep := step_poll_of_invalid hs hport' (hq ▸ hu) hinvalid
      rw [hq, List.tail_cons] at hstep
      refine (run_succ hstep).trans ((ih _ (hs.discarded u.sync bs _) hw hfirst' rfl).trans ?_)
      simp [discarded, sampled]

/-- Settles O51: the window stands behind the bytes of `pre`. -/
theorem minimalDiscard : Obligations.MinimalDiscard := by
  intro s pre rest w later hidle hauto hq hvalid hfirst hport
  have hw : peek9 (s.q.drop pre.length) = some w := by simp [hq]
  rw [run_polls_to_window w later hvalid pre.length s ⟨hidle, hauto⟩ hw hfirst hport]
  have htake : s.q.take pre.length = pre := by simp [hq]
  have hdrop : s.q.drop (pre.length + 9) = rest := by simp [hq, ← List.drop_drop]
  rw [htake, hdrop]
  rfl

/-- Settles O54: the window at `k` takes nine bytes, `9 - k` of the region and `k` of the frame after it. -/
theorem falseLockTakesTheHeadOfTheNextFrame : Obligations.FalseLockTakesTheHeadOfTheNextFrame := by
  intro s c v w rest later k hidle hauto hq hk hw hsync hcmd hsum hfirst hport
  have hvalid : validate w 0x62#8 0x33#8 = .ok := validate_ok.2 ⟨hsum, hsync, hcmd⟩
  refine ⟨_, run_polls_to_window w later hvalid k s ⟨hidle, hauto⟩ hw hfirst hport, ?events, ?queue⟩
  case events =>
    have htake : s.q.take k = c.bytes.take k := by
      rw [hq, List.take_append_of_le_length (by rw [bytes_length]; omega)]
    rw [← htake]
    rfl
  case queue =>
    calc s.q.drop (k + 9) = (s.q.drop 9).drop k := by rw [List.drop_drop, Nat.add_comm]
      _ = (v.bytes ++ rest).drop k := by rw [hq, drop_bytes_append]
      _ = v.bytes.drop k ++ rest := List.drop_append_of_le_length (by rw [bytes_length]; omega)

/-! ### Recovery -/

/-- Settles O53: the second frame is a valid window after `g`, so the first valid one stands there or before. -/
theorem recoveryFromInsertedOrDroppedBytes : Obligations.RecoveryFromInsertedOrDroppedBytes := by
  intro s v1 v2 g rest later hidle hauto hq hv1 hv2 hport
  have hsecond : peek9 ((g ++ (v2.bytes ++ rest)).drop g.length) = some v2 := by simp
  obtain ⟨k, w, hk, hw, hvalid, hfirst⟩ := exists_first_window ((validWindow_of_peek9 hsecond).2 hv2)
  have hs : s.Streaming := ⟨hidle, hauto⟩
  have hport' : s.port = .word pollWord :: (List.replicate (g.length + 1) (.word pollWord) ++ later) := hport
  have hstep : step s = .next (sampled v1 (g ++ (v2.bytes ++ rest))
      (List.replicate (g.length + 1) (.word pollWord) ++ later) s) := by
    rw [step_poll_of_valid hs hport' (by rw [hq, peek9_bytes_append]) hv1, hq, drop_bytes_append]
  have hpolls : List.replicate (g.length + 1) (PortItem.word pollWord) ++ later =
      List.replicate (k + 1) (.word pollWord) ++ (List.replicate (g.length - k) (.word pollWord) ++ later) := by
    rw [← List.append_assoc, List.replicate_append_replicate]
    congr 2
    omega
  have hrun := run_polls_to_window w _ hvalid k _ (hs.sampled v1 _ _) hw hfirst hpolls
  refine ⟨k, w, _, hk, hw, hvalid, hfirst, (run_succ hstep).trans hrun, ?events, fun hnone => ?second⟩
  case events =>
    have htake : (g ++ (v2.bytes ++ rest)).take k = g.take k := List.take_append_of_le_length hk
    rw [← htake]
    rfl
  case second =>
    have hkg : k = g.length := by
      by_contra hne
      have hbad := hnone k (by omega)
      rw [(validWindow_of_peek9 hw).2 hvalid] at hbad
      cases hbad
    subst hkg
    exact ⟨rfl, Option.some.inj (hw.symm.trans hsecond)⟩

/-- Settles O52: O53 over the nine bytes of the corrupted frame, which is itself no valid window. -/
theorem recoveryFromOneCorruptedFrame : Obligations.RecoveryFromOneCorruptedFrame := by
  intro s v1 c v2 rest later hidle hauto hq hv1 hv2 hc hport
  have hc0 : validWindow ((c.bytes ++ (v2.bytes ++ rest)).drop 0) = false :=
    Bool.eq_false_iff.2 fun h => hc ((validWindow_of_peek9 rfl).1 h)
  obtain ⟨k, w, t, hk, hw, hvalid, hfirst, hrun, hevents, hnone⟩ :=
    recoveryFromInsertedOrDroppedBytes s v1 v2 c.bytes rest later hidle hauto hq hv1 hv2 hport
  refine ⟨k, w, t, ?pos, hk, hw, hvalid, hfirst, hrun, hevents, fun hinside => hnone fun j hj => ?_⟩
  case pos =>
    refine Nat.one_le_iff_ne_zero.2 ?_
    rintro rfl
    rw [(validWindow_of_peek9 hw).2 hvalid] at hc0
    cases hc0
  rcases Nat.eq_zero_or_pos j with rfl | hpos
  · exact hc0
  · exact hinside j hpos (Nat.le_of_lt_succ hj)

end Sys2Proof.Machine
end

section
/-! PROOFS. The family of 42_wire_commands.md: the frames of the commands and of the sensor, read back. A command's
frame and the mode request of its operation hold the operands of its START*, its checksum byte apart. -/

namespace Sys2Proof.Machine

/-! ### The operands that a frame holds -/

/-- The START* operands that a frame's bytes hold, with a mode request (R84, R87). -/
def frameArgs (m : Mreq) (f : Frame) : StartArgs :=
  ⟨m, f.sync, f.cmd, cat16 f.addrHi f.addrLo, f.data0, f.data1, f.status⟩

theorem commandFrame_frameArgs (m : Mreq) {f : Frame} (hlen : f.len = Config.lenMark) :
    commandFrame (frameArgs m f) = { f with checksum := checksumOf f } := by
  obtain ⟨sync, cmd, len, addrHi, addrLo, data0, data1, status, checksum⟩ := f
  cases hlen
  simp [buildFrame, frameArgs, checksumOf, Frame.bytes]

/-! ### From a command to its frame and back -/

theorem decodeReset_resetHardArgs (pos : SelPos) (addr : Half) :
    decodeReset addr (resetHardArgs pos addr).p0 (resetHardArgs pos addr).p1 (resetHardArgs pos addr).p2 =
      .ok (.resetHard pos addr) := by
  cases pos <;> rfl

theorem decodeReset_resetSoftArgs (pos : SelPos) (addr : Half) :
    decodeReset addr (resetSoftArgs pos addr).p0 (resetSoftArgs pos addr).p1 (resetSoftArgs pos addr).p2 =
      .ok (.resetSoft pos addr) := by
  cases pos <;> rfl

/-- The Reset frame is read by its selector alone. -/
theorem decodeCommand_resetArgs (sel : Byte) (pos : SelPos) (addr : Half) :
    decodeCommand (resetArgs sel pos addr).mreq (commandFrame (resetArgs sel pos addr)) =
      decodeReset addr (resetArgs sel pos addr).p0 (resetArgs sel pos addr).p1 (resetArgs sel pos addr).p2 := by
  cases pos <;> simp [resetArgs, decodeCommand, decodePlainCommand]

/-- The frame of a command, row by row. -/
theorem decodeCommand_commandFrame {i : Instr} {a : StartArgs} (hi : i.isOperation = false)
    (ha : startArgsOf i = some a) : decodeCommand a.mreq (commandFrame a) = .ok i := by
  cases i with
  | nop | rxb | poll | start | startMan | startAuto | timeout | txfail | flush | brst => cases hi
  | respConfig | frameDist => cases ha
  | resetHard pos addr =>
    cases ha
    exact (decodeCommand_resetArgs 0xFE#8 pos addr).trans (decodeReset_resetHardArgs pos addr)
  | resetSoft pos addr =>
    cases ha
    exact (decodeCommand_resetArgs 0xFD#8 pos addr).trans (decodeReset_resetSoftArgs pos addr)
  | setAddr addr new => cases ha; simp [setAddrArgs, decodeCommand, decodePlainCommand]
  | readDist addr => cases ha; simp [readDistArgs, decodeCommand, decodePlainCommand]
  | setUpModeAuto addr p0 p1 p2 => cases ha; simp [setUpModeAutoArgs, decodeCommand]
  | setUpModeMan addr p0 p1 p2 => cases ha; simp [setUpModeManArgs, decodeCommand]
  | setBaud | setUpInt | setCommA | setCommB | setLed | setRelay =>
    cases ha
    simp [setBaudArgs, setUpIntArgs, setCommAArgs, setCommBArgs, setLedArgs, setRelayArgs, decodeCommand,
      decodePlainCommand]

/-! ### From a frame to a command and back -/

/-- The instruction is a command pseudo-instruction with these START* operands (R170). -/
def IsCommandWith (i : Instr) (a : StartArgs) : Prop := i.isOperation = false ∧ startArgsOf i = some a

/-- What a Reset payload is read as has that payload. -/
theorem isCommandWith_of_decodeReset {addr : Half} {p0 p1 p2 : Byte} {i : Instr}
    (h : decodeReset addr p0 p1 p2 = .ok i) :
    IsCommandWith i ⟨.none, 0x62#8, 0x39#8, addr, p0, p1, p2⟩ := by
  unfold decodeReset at h
  repeat' split at h
  case isFalse => cases h
  all_goals
    rename_i hsel
    cases hsel
    cases h
    exact ⟨rfl, rfl⟩

/-- A row outside SetUploadMode's pair: its pair is the pair of the command, and a payload byte that it fixes at 0x00
is the command's. -/
theorem isCommandWith_of_decodePlainCommand {f : Frame} {i : Instr} (h : decodePlainCommand f = .ok i) :
    IsCommandWith i (frameArgs .none f) := by
  obtain ⟨sync, cmd, len, addrHi, addrLo, data0, data1, status, checksum⟩ := f
  unfold decodePlainCommand at h
  split at h
  case isTrue hreset =>
    cases hreset
    exact isCommandWith_of_decodeReset h
  split at h
  case isTrue hsetAddr =>
    cases hsetAddr
    split at h
    case isTrue hstatus =>
      cases hstatus
      cases h
      exact ⟨rfl, by simp [startArgsOf, setAddrArgs, frameArgs]⟩
    case isFalse => cases h
  iterate 6
    split at h
    case isTrue hpair =>
      cases hpair
      cases h
      exact ⟨rfl, rfl⟩
  split at h
  case isTrue hreadDist =>
    cases hreadDist
    split at h
    case isTrue hpayload =>
      cases hpayload
      cases h
      exact ⟨rfl, rfl⟩
    case isFalse => cases h
  case isFalse => cases h

/-- A frame that is read as a command has the length mark and holds that command's operands. -/
theorem isCommandWith_of_decodeCommand {m : Mreq} {f : Frame} {i : Instr} (h : decodeCommand m f = .ok i) :
    f.len = Config.lenMark ∧ IsCommandWith i (frameArgs m f) := by
  unfold decodeCommand at h
  split at h
  case isTrue => cases h
  case isFalse hlen =>
    refine ⟨not_not.1 hlen, ?_⟩
    split at h
    case isTrue hpair =>
      obtain ⟨hsync, hcmd⟩ := Prod.mk.inj hpair
      cases m with
      | none => cases h
      | manual => cases h; exact ⟨rfl, by rw [frameArgs, hsync, hcmd]; rfl⟩
      | auto => cases h; exact ⟨rfl, by rw [frameArgs, hsync, hcmd]; rfl⟩
    case isFalse =>
      split at h
      case isTrue => cases h
      case isFalse hm =>
        rw [not_not.1 hm]
        exact isCommandWith_of_decodePlainCommand h

/-- Settles O10: a command's frame is read row by row, and a frame that is read as a command holds its operands. -/
theorem commandFramesRoundTrip : Obligations.CommandFramesRoundTrip := by
  refine ⟨fun i a => decodeCommand_commandFrame, fun m f i h => ?_⟩
  obtain ⟨hlen, hi, ha⟩ := isCommandWith_of_decodeCommand h
  exact ⟨hi, frameArgs m f, ha, rfl, commandFrame_frameArgs m hlen⟩

/-! ### The sensor's frames -/

theorem isConfigPair_iff {sync cmd : Byte} : isConfigPair sync cmd = true ↔ ¬ (sync = 0x62#8 ∧ cmd = 0x33#8) := by
  simp [isConfigPair, Config.sync, Config.cmdDist, imp_iff_not_or]

theorem fieldsOf_respConfigFrame (sync cmd len : Byte) (addr data : Half) (status checksum : Byte) :
    fieldsOf (respConfigFrame sync cmd len addr data status checksum) = ⟨addr, data, status⟩ := by
  simp [fieldsOf, respConfigFrame]

theorem fieldsOf_frameDistFrame (len : Byte) (addr dist : Half) (status checksum : Byte) :
    fieldsOf (frameDistFrame len addr dist status checksum) = ⟨addr, dist, status⟩ := by
  simp [fieldsOf, frameDistFrame]

/-- A frame is the configuration response of its own fields (R183). -/
theorem respConfigFrame_fields (f : Frame) :
    respConfigFrame f.sync f.cmd f.len (fieldsOf f).addr (fieldsOf f).data (fieldsOf f).status f.checksum = f := by
  simp [fieldsOf, respConfigFrame]

/-- The distance frame is the response frame with the distance pair (R184). -/
theorem frameDistFrame_eq (len : Byte) (addr dist : Half) (status checksum : Byte) :
    frameDistFrame len addr dist status checksum = respConfigFrame 0x62#8 0x33#8 len addr dist status checksum := rfl

theorem decodeSensor_of_distPair {f : Frame} (hsync : f.sync = 0x62#8) (hcmd : f.cmd = 0x33#8) :
    decodeSensor f =
      .frameDist f.len (fieldsOf f).addr (fieldsOf f).data (fieldsOf f).status f.checksum :=
  if_pos (Prod.ext hsync hcmd)

theorem decodeSensor_of_configPair {f : Frame} (h : isConfigPair f.sync f.cmd = true) :
    decodeSensor f =
      .respConfig f.sync f.cmd f.len (fieldsOf f).addr (fieldsOf f).data (fieldsOf f).status f.checksum :=
  if_neg fun hpair => isConfigPair_iff.1 h (Prod.mk.inj hpair)

/-- The frame of a well-formed sensor row is read as that row. -/
theorem decodeSensor_sensorFrame {i : Instr} {f : Frame} (hi : i.wellFormed = true)
    (hf : sensorFrameOf i = some f) : decodeSensor f = i := by
  cases i with
  | respConfig sync cmd len addr data status checksum =>
    cases hf
    have hpair : isConfigPair sync cmd = true := hi
    rw [decodeSensor_of_configPair hpair, fieldsOf_respConfigFrame]
    rfl
  | frameDist len addr dist status checksum =>
    cases hf
    rw [decodeSensor_of_distPair rfl rfl, fieldsOf_frameDistFrame]
    rfl
  | _ => cases hf

/-- A frame is the frame of the sensor row it is read as, which is well formed. -/
theorem wellFormed_decodeSensor (f : Frame) :
    (decodeSensor f).wellFormed = true ∧ sensorFrameOf (decodeSensor f) = some f := by
  by_cases hpair : f.sync = 0x62#8 ∧ f.cmd = 0x33#8
  · obtain ⟨hsync, hcmd⟩ := hpair
    rw [decodeSensor_of_distPair hsync hcmd]
    refine ⟨rfl, congrArg some ?_⟩
    rw [frameDistFrame_eq, ← hsync, ← hcmd]
    exact respConfigFrame_fields f
  · rw [decodeSensor_of_configPair (isConfigPair_iff.2 hpair)]
    exact ⟨isConfigPair_iff.2 hpair, congrArg some (respConfigFrame_fields f)⟩

/-- Settles O11: the pair of a frame tells the two sensor rows apart. -/
theorem sensorFramesRoundTrip : Obligations.SensorFramesRoundTrip :=
  ⟨fun _ _ => decodeSensor_sensorFrame, wellFormed_decodeSensor⟩

end Sys2Proof.Machine
end

section
/-! PROOFS. The family of 42_wire_commands.md: a command does what its START* does. In IDLE with fewer than nine bytes
queued one that neither refusal of R135 meets sends its frame and waits. -/

namespace Sys2Proof.Machine

variable {s : State}

/-- Settles O34: a command and the START* it expands to have the same operands. -/
theorem commandsRunTheirStart : Obligations.CommandsRunTheirStart := by
  intro i a s ha
  rw [exec_of_startArgs s ha, exec_startInstr]

/-- An instruction whose START* meets neither refusal of R135 and finds no stale window. -/
theorem exec_of_accepted {i : Instr} {m : Mreq} {sync cmd : Byte} {addr : Half} {p0 p1 p2 : Byte}
    (ha : startArgsOf i = some ⟨m, sync, cmd, addr, p0, p1, p2⟩)
    (hmode : kindOf sync cmd = .config ∨ s.mode = .manual)
    (hparam : isSetAddressPair sync cmd = false ∨ ¬ Config.addrMax < cat16 p0 p1) (hidle : s.exst = .idle)
    (hshort : s.q.length < 9) :
    exec i s = .next (opened s m sync cmd (buildFrame sync cmd addr p0 p1 p2)) := by
  have hmode' : ¬ (kindOf sync cmd = .dist ∧ s.mode = .auto) := by
    rcases hmode with h | h <;> simp [h]
  have hparam' : ¬ (isSetAddressPair sync cmd = true ∧ Config.addrMax < cat16 p0 p1) := by
    rcases hparam with h | h <;> simp [h]
  rw [exec_of_startArgs s ha, startMain_of_accepted hidle hmode' hparam']
  exact congrArg _ (settle_of_short (s := opened s m sync cmd _) hshort)

/-- An instruction whose START* is refused. -/
theorem exec_of_refused {i : Instr} {a : StartArgs} {o : OutcomeCode} (ha : startArgsOf i = some a)
    (hidle : s.exst = .idle) (href : startMain a s = refuseStart o s) :
    exec i s = .next { s with outcome := o, events := s.events ++ [.rejected o] } := by
  rw [exec_of_startArgs s ha, href, settle_refuseStart o hidle]

/-- Settles O29: none of the eight pairs is checked. -/
theorem plainCommandsSendTheirFrames : Obligations.PlainCommandsSendTheirFrames := by
  intro s addr p0 p1 p2 hidle hshort
  refine ⟨?_, ?_, ?_, ?_, ?_, ?_, ?_, ?_, ?_, ?_, ?_, ?_⟩ <;>
    exact exec_of_accepted rfl (.inl rfl) (.inl rfl) hidle hshort

/-- Settles O31: the pair of SetUploadMode is not checked. -/
theorem setUploadModeCarriesItsRequest : Obligations.SetUploadModeCarriesItsRequest := fun _ _ _ _ _ hidle hshort =>
  ⟨exec_of_accepted rfl (.inl rfl) (.inl rfl) hidle hshort, exec_of_accepted rfl (.inl rfl) (.inl rfl) hidle hshort⟩

/-- The broadcast address is the only one above ADDR_MAX (R8). -/
theorem addrMax_lt_iff {v : Half} : Config.addrMax < v ↔ v = 0xFFFF#16 := by
  unfold Config.addrMax
  bv_omega

/-- Settles O30: the payload of SETADDR is its new address, which R135 compares with ADDR_MAX. -/
theorem setAddressChecksTheNewAddress : Obligations.SetAddressChecksTheNewAddress := by
  refine ⟨fun s addr new hidle hshort hnew => ?sent, fun s addr hidle => ?refused⟩
  case sent =>
    have hparam : ¬ Config.addrMax < cat16 (hi8 new) (lo8 new) := by
      rwa [cat16_hi8_lo8, addrMax_lt_iff]
    exact exec_of_accepted rfl (.inl rfl) (.inr hparam) hidle hshort
  case refused =>
    exact exec_of_refused (a := setAddrArgs addr 0xFFFF#16) rfl hidle
      (startMain_of_badParam hidle rfl (addrMax_lt_iff.2 (cat16_hi8_lo8 _)))

/-- Settles O32: the kind of READDIST's pair is DIST, which R135 refuses in AUTO. -/
theorem readDistanceNeedsManualMode : Obligations.ReadDistanceNeedsManualMode := by
  refine ⟨fun s addr hidle hmanual hshort => ?sent, fun s addr hidle hauto => ?refused⟩
  case sent =>
    exact exec_of_accepted rfl (.inr hmanual) (.inl rfl) hidle hshort
  case refused =>
    exact exec_of_refused (a := readDistArgs addr) rfl hidle (startMain_of_conflict hidle rfl hauto)

end Sys2Proof.Machine
end

section
/-! PROOFS. The family of 42_wire_commands.md: the delivery of a sensor frame. Its bytes are queued one by one; in IDLE
they stay, and the ninth byte on an empty queue completes a waiting exchange on the frame. -/

namespace Sys2Proof.Machine

variable {s : State}

/-! ### Bytes that are queued -/

/-- The state after the receiver stored these bytes, each with its Done (R133). -/
def queued (bs : List Byte) (s : State) : State :=
  { s with q := s.q ++ bs, events := s.events ++ List.replicate bs.length .done }

theorem queued_nil (s : State) : queued [] s = s := by
  simp [queued]

theorem queued_append (bs cs : List Byte) (s : State) : queued (bs ++ cs) s = queued cs (queued bs s) := by
  simp [queued]

theorem rxbMain_eq_queued (b : Byte) (hroom : s.q.length < Config.rxqDepth) : rxbMain b s = queued [b] s :=
  rxbMain_of_room b hroom

theorem length_queued (bs : List Byte) (s : State) : (queued bs s).q.length = s.q.length + bs.length :=
  List.length_append

/-- Bytes that find room and give a waiting exchange no ninth byte are queued. -/
theorem receive_eq_queued (bs : List Byte) : ∀ s : State, s.q.length + bs.length ≤ Config.rxqDepth →
    (s.exst = .wait → s.q.length + bs.length < 9) → receive bs s = queued bs s := by
  induction bs with
  | nil => exact fun s _ _ => (queued_nil s).symm
  | cons b bs ih =>
    intro s hroom hshort
    rw [List.length_cons] at hroom hshort
    have hlen : (queued [b] s).q.length = s.q.length + 1 := length_queued [b] s
    have hshort' : s.exst = .wait → (queued [b] s).q.length + bs.length < 9 := fun hwait => by
      have := hshort hwait
      omega
    have hsettled : (queued [b] s).Settled := fun hwait => by
      have := hshort' hwait
      omega
    rw [receive_cons, rxbMain_eq_queued b (by omega), settle_of_settled hsettled, ih _ (by omega) hshort']
    exact (queued_append [b] bs s).symm

/-- A frame stored in an empty queue is its window, and what follows it is as empty. -/
theorem queued_q_of_empty (f : Frame) (hempty : s.q = []) : (queued f.bytes s).q = f.bytes ++ s.q := by
  simp [queued, hempty]

/-- A frame that reaches a waiting exchange and an empty queue is its window (R131). -/
theorem receive_bytes_of_wait (f : Frame) (hwait : s.exst = .wait) (hempty : s.q = []) :
    receive f.bytes s = complete f (queued f.bytes s) := by
  obtain ⟨hdepth, -⟩ := rxqDepth_bounds
  obtain ⟨body, hbody, hlen⟩ : ∃ body, f.bytes = body ++ [f.checksum] ∧ body.length = 8 :=
    ⟨f.bytes.take 8, rfl, rfl⟩
  have hbefore : receive body s = queued body s :=
    receive_eq_queued body s (by simp [hempty, hlen]; omega) fun _ => by simp [hempty, hlen]
  have hroom : (queued body s).q.length < Config.rxqDepth := by
    rw [length_queued, hempty, hlen, List.length_nil]
    omega
  calc receive f.bytes s
      = settle (rxbMain f.checksum (queued body s)) := by
        rw [hbody, receive_append, hbefore, receive_cons, receive_nil]
    _ = settle (queued f.bytes s) := by rw [rxbMain_eq_queued _ hroom, ← queued_append, ← hbody]
    _ = complete f (queued f.bytes s) :=
        settle_of_window hwait (queued_q_of_empty f hempty)

/-! ### A sensor row, by what its frame meets -/

section
variable {i : Instr} {f : Frame}

/-- With no exchange outstanding and room for it a frame is queued. -/
theorem exec_sensor_of_idle (hf : sensorFrameOf i = some f) (hidle : s.exst = .idle)
    (hroom : s.q.length + 9 ≤ Config.rxqDepth) :
    exec i s = .next { s with q := s.q ++ f.bytes, events := s.events ++ List.replicate 9 .done } := by
  have hshort : s.exst = .wait → s.q.length + f.bytes.length < 9 := fun hwait =>
    absurd (hidle.symm.trans hwait) (by decide)
  rw [exec_of_sensorFrame s hf, receive_eq_queued f.bytes s hroom hshort]
  rfl

/-- A frame that Validate refuses ends the waiting exchange. -/
theorem exec_sensor_of_invalid {o : OutcomeCode} (hf : sensorFrameOf i = some f) (hwait : s.exst = .wait)
    (hempty : s.q = []) (hv : validate f s.expSync s.expCmd ≠ .ok)
    (ho : classify s.expKind (validate f s.expSync s.expCmd) f.status = o) :
    exec i s = .next { s with outcome := o, exst := .idle,
                              events := s.events ++ List.replicate 9 .done ++ [.exchDone o] } := by
  subst ho
  rw [exec_of_sensorFrame s hf, receive_bytes_of_wait f hwait hempty,
    complete_of_invalid (queued_q_of_empty f hempty) hv]
  rfl

/-- A frame with the device's refusal ends the waiting exchange. -/
theorem exec_sensor_of_rejected {d : Fields} (hf : sensorFrameOf i = some f) (hd : fieldsOf f = d)
    (hwait : s.exst = .wait) (hempty : s.q = []) (hv : validate f s.expSync s.expCmd = .ok)
    (ho : classify s.expKind .ok f.status = .deviceRejected) :
    exec i s = .next { s with outcome := .deviceRejected, exst := .idle, respAddr := d.addr, respData := d.data,
                              respStatus := d.status,
                              events := s.events ++ List.replicate 9 .done ++
                                [.exchDoneResp .deviceRejected d.addr d.data d.status] } := by
  subst hd
  rw [exec_of_sensorFrame s hf, receive_bytes_of_wait f hwait hempty,
    complete_of_rejected (queued_q_of_empty f hempty) hv ho]
  rfl

/-- A frame that is the awaited response ends the exchange with success. -/
theorem exec_sensor_of_success {d : Fields} (hf : sensorFrameOf i = some f) (hd : fieldsOf f = d)
    (hwait : s.exst = .wait) (hempty : s.q = []) (hv : validate f s.expSync s.expCmd = .ok)
    (ho : classify s.expKind .ok f.status = .success) :
    exec i s = .next { s with outcome := .success, exst := .idle, respAddr := d.addr, respData := d.data,
                              respStatus := d.status, mode := modeAfter s,
                              lastAddr := if s.expKind = .dist then d.addr else s.lastAddr,
                              lastDist := if s.expKind = .dist then d.data else s.lastDist,
                              lastValid := if s.expKind = .dist then true else s.lastValid,
                              events := s.events ++ List.replicate 9 .done ++
                                [.exchDoneResp .success d.addr d.data d.status] } := by
  subst hd
  rw [exec_of_sensorFrame s hf, receive_bytes_of_wait f hwait hempty,
    complete_of_success (queued_q_of_empty f hempty) hv ho]
  rfl

/-- A frame with a wrong checksum ends any waiting exchange. -/
theorem exec_sensor_of_csumBad (hf : sensorFrameOf i = some f) (hwait : s.exst = .wait) (hempty : s.q = [])
    (hcs : checksumOf f ≠ f.checksum) :
    exec i s = .next { s with outcome := .checksumError, exst := .idle,
                              events := s.events ++ List.replicate 9 .done ++ [.exchDone .checksumError] } := by
  have hv : validate f s.expSync s.expCmd = .csumBad := validate_csumBad.2 hcs
  exact exec_sensor_of_invalid hf hwait hempty (by simp [hv]) (by rw [hv, classify_csumBad])

/-- A frame of another pair ends a waiting exchange. -/
theorem exec_sensor_of_pairBad (hf : sensorFrameOf i = some f) (hwait : s.exst = .wait) (hempty : s.q = [])
    (hcs : checksumOf f = f.checksum) (hpair : ¬ (f.sync = s.expSync ∧ f.cmd = s.expCmd)) :
    exec i s = .next { s with outcome := .responseError, exst := .idle,
                              events := s.events ++ List.replicate 9 .done ++ [.exchDone .responseError] } := by
  have hv : validate f s.expSync s.expCmd = .pairBad := validate_pairBad.2 ⟨hcs, not_and_or.1 hpair⟩
  exact exec_sensor_of_invalid hf hwait hempty (by simp [hv]) (by rw [hv, classify_pairBad])

end

/-! ### The two rows -/

/-- Settles O36: the checksum and the status of the response choose how the exchange ends. -/
theorem configResponseIsDelivered : Obligations.ConfigResponseIsDelivered := by
  intro s sync cmd len addr data st cs f
  have hd : fieldsOf f = ⟨addr, data, st⟩ := fieldsOf_respConfigFrame sync cmd len addr data st cs
  refine ⟨fun hwait hempty hcs => exec_sensor_of_csumBad rfl hwait hempty hcs,
    fun hwait hempty hkind hsync hcmd hcs hst => ?ack, fun hwait hempty hkind hsync hcmd hcs hst => ?rejected,
    fun hidle hroom => exec_sensor_of_idle rfl hidle hroom⟩
  case ack =>
    rw [exec_sensor_of_success rfl hd hwait hempty (validate_ok.2 ⟨hcs, hsync.symm, hcmd.symm⟩)
      (by rw [hkind, show f.status = 0x66#8 from hst, classify_ack]), hkind]
    rfl
  case rejected =>
    exact exec_sensor_of_rejected rfl hd hwait hempty (validate_ok.2 ⟨hcs, hsync.symm, hcmd.symm⟩)
      (by rw [hkind, classify_config]; exact if_neg hst)

/-- An exchange with the distance pair confirms no mode. -/
theorem modeAfter_of_distPair (hcmd : s.expCmd = 0x33#8) : modeAfter s = s.mode := by
  simp [modeAfter, hcmd]

/-- Settles O37: the checksum and the expected pair choose how the exchange ends. -/
theorem distanceFrameIsDelivered : Obligations.DistanceFrameIsDelivered := by
  intro s len addr dist st cs f
  have hd : fieldsOf f = ⟨addr, dist, st⟩ := fieldsOf_frameDistFrame len addr dist st cs
  refine ⟨fun hwait hempty hkind hsync hcmd hcs => ?sample,
    fun hwait hempty hpair hcs => exec_sensor_of_pairBad rfl hwait hempty hcs fun ⟨hsync, hcmd⟩ =>
      hpair ⟨hsync.symm, hcmd.symm⟩,
    fun hwait hempty hcs => exec_sensor_of_csumBad rfl hwait hempty hcs,
    fun hidle hroom => exec_sensor_of_idle rfl hidle hroom⟩
  case sample =>
    rw [exec_sensor_of_success rfl hd hwait hempty (validate_ok.2 ⟨hcs, hsync.symm, hcmd.symm⟩)
      (by rw [hkind, classify_dist]), hkind, modeAfter_of_distPair hcmd]
    rfl

end Sys2Proof.Machine
end

section
/-! PROOFS. The family of 60_exceptions.md: no transfer stops the FCR, which exchanges go on waiting, and the race of
the ninth byte against TIMEOUT. -/

namespace Sys2Proof.Machine

variable {s t m : State} {f : Fetched}

/-! ### The pending transfers -/

/-- No main phase touches the transfers behind its own. -/
theorem mainPhase_port (h : MainPhase f s m) : m.port = s.port := by
  cases h with
  | nop | stored | overrun | unpolled | sampled | discarded | busy | conflict | badParam | accepted | reported | ignored
  | flushed | reset | illegal => rfl

theorem complete_port (w : Frame) (s : State) : (complete w s).port = s.port := by
  obtain ⟨-, -, -, -, -, -, -, -, -, hport⟩ := complete_frame w s
  exact hport

theorem settle_rxbMain_port (b : Byte) (s : State) : (settle (rxbMain b s)).port = s.port := by
  rw [settle_port, mainPhase_port (mainPhase_rxb b s)]

theorem receive_port (bs : List Byte) (s : State) : (receive bs s).port = s.port :=
  receive_induction (P := fun u => u.port = s.port) (fun b u hu => (settle_rxbMain_port b u).trans hu) bs s rfl

theorem transfer_port (h : Transfer f s t) : t.port = s.port := by
  cases h with
  | operation hm => rw [settle_port, mainPhase_port hm]
  | resetInput => rfl
  | sensorFrame => exact receive_port _ s

/-- Settles O42: every transfer has a next state, and a step runs the transfer at the head or finds none. -/
theorem noStepStops : Obligations.NoStepStops := by
  refine ⟨fun i s => ?_, fun s => ?_⟩
  · obtain ⟨t, ht, htr⟩ := exec_transfer i s
    exact ⟨t, ht, transfer_port htr⟩
  · cases hport : s.port with
    | nil => exact ⟨s, step_nil s hport, hport⟩
    | cons item rest =>
      obtain ⟨t, ht, htr⟩ := runFetched_transfer (fetchItem item) (setPort rest s)
      exact ⟨t, (step_cons s hport).trans ht, transfer_port htr⟩

/-! ### An exchange that nothing ends -/

/-- R22: in WAIT the main phases that leave it are TIMEOUT's, TXFAIL's and BRST's. -/
theorem mainPhase_stays_wait (h : MainPhase f s m) (hwait : s.exst = .wait) (htimeout : f ≠ .run .timeout)
    (htxfail : f ≠ .run .txfail) (hbrst : f ≠ .run .brst) : m.exst = .wait := by
  cases h with
  | nop | stored | overrun | unpolled | sampled | discarded | busy | conflict | badParam | ignored | flushed
  | illegal => exact hwait
  | accepted => rfl
  | reported _ hi =>
    rcases hi with ⟨rfl, -⟩ | ⟨rfl, -⟩
    · exact absurd rfl htimeout
    · exact absurd rfl htxfail
  | reset => exact absurd rfl hbrst

/-- Only RXB makes the queue longer, by its byte. -/
theorem mainPhase_queue_length (h : MainPhase f s m) :
    m.q.length ≤ s.q.length ∨ ∃ b, f = .run (.rxb b) ∧ m.q.length = s.q.length + 1 := by
  rcases mainPhase_queue h with hq | ⟨b, hf, hq⟩ | ⟨-, -, hq | ⟨-, hq⟩⟩ | ⟨-, hq⟩
  · exact .inl (by rw [hq])
  · exact .inr ⟨b, hf, by rw [hq, List.length_append, List.length_singleton]⟩
  · exact .inl (by rw [hq, List.length_drop]; omega)
  · exact .inl (by rw [hq, List.length_drop]; omega)
  · exact .inl (by rw [hq]; exact Nat.zero_le _)

/-- R83: a word that decodes to an RXB has its OP. -/
theorem opField_of_decodeOp_rxb {w : OpWord} {b : Byte} (h : decodeOp w = .ok (.rxb b)) : opField w = 0x1#4 := by
  obtain rfl : rxbWord b = w := List.singleton_inj.1 (encode_of_decodeOp h)
  exact (rxbUpper_iff.1 (upper_rxbWord b)).1

/-- How many bytes a word can add to the queue, by its OP. -/
def byteCount (w : OpWord) : Nat := if opField w == 0x1#4 then 1 else 0

theorem byteCount_of_rxb {w : OpWord} {b : Byte} (h : decodeOp w = .ok (.rxb b)) : byteCount w = 1 :=
  if_pos (beq_iff_eq.2 (opField_of_decodeOp_rxb h))

/-- A word that is no report and no BRST leaves a waiting exchange in WAIT while the queue stays short of nine. -/
theorem step_word_stays_wait {w : OpWord} {rest : List PortItem} (hwait : s.exst = .wait)
    (hw : decodeOp w ≠ .ok .timeout ∧ decodeOp w ≠ .ok .txfail ∧ decodeOp w ≠ .ok .brst)
    (hshort : s.q.length + byteCount w < 9) (hport : s.port = .word w :: rest) :
    ∃ t, step s = .next t ∧ t.exst = .wait ∧ t.port = rest ∧ t.q.length ≤ s.q.length + byteCount w := by
  obtain ⟨htimeout, htxfail, hbrst⟩ := hw
  obtain ⟨m, hstep, hm⟩ := step_word hport
  have hmwait : m.exst = .wait := mainPhase_stays_wait hm hwait (mt decodeOp_of_fetchItem_word htimeout)
    (mt decodeOp_of_fetchItem_word htxfail) (mt decodeOp_of_fetchItem_word hbrst)
  have hmlen : m.q.length ≤ s.q.length + byteCount w := by
    rcases mainPhase_queue_length hm with hlen | ⟨b, hf, hlen⟩ <;> rw [setPort_q] at hlen
    · omega
    · rw [byteCount_of_rxb (decodeOp_of_fetchItem_word hf), hlen]
  have hsettle : settle m = m := settle_of_short (by omega)
  exact ⟨m, by rw [hstep, hsettle], hmwait, mainPhase_port hm, hmlen⟩

/-- Settles O55, by induction on the words: each leaves the exchange waiting and the count below nine. -/
theorem waitsWithoutAReport : Obligations.WaitsWithoutAReport := by
  intro ws
  induction ws with
  | nil => exact fun s later hwait _ _ hport => ⟨s, run_zero s, hwait, hport⟩
  | cons w ws ih =>
    intro s later hwait hws hshort hport
    obtain ⟨hw, hws'⟩ := List.forall_mem_cons.1 hws
    have hcount : s.q.length + (ws.countP (fun w => opField w == 0x1#4) + byteCount w) < 9 := by
      rwa [List.countP_cons] at hshort
    obtain ⟨t, hstep, htwait, htport, htlen⟩ := step_word_stays_wait hwait hw (by omega) hport
    obtain ⟨u, hrun, hu⟩ := ih t later htwait hws' (by omega) htport
    exact ⟨u, (run_succ hstep).trans hrun, hu⟩

/-! ### The ninth byte against TIMEOUT -/

/-- A run of two operation words is their two instructions, the second from the state that the first left. -/
theorem run_two_words {w w' : OpWord} {i j : Instr} {rest : List PortItem} (s : State) (hw : decodeOp w = .ok i)
    (hw' : decodeOp w' = .ok j) (hi : exec i (setPort (.word w' :: rest) s) = .next t)
    (htport : t.port = .word w' :: rest) :
    Sys2Proof.core.run 2 (setPort (.word w :: .word w' :: rest) s) = exec j (setPort rest t) :=
  (run_succ ((step_word_ok (setPort_port ..) hw).trans hi)).trans ((run_one t).trans (step_word_ok htport hw'))

/-- Settles O56: RXB's rule and TIMEOUT's, in either order. -/
theorem ninthByteRacesTimeout : Obligations.NinthByteRacesTimeout := by
  obtain ⟨hrxb, hstored, hninth, -⟩ := rxbRule
  obtain ⟨htimeout, hended, hignored⟩ := timeoutRule
  intro s b w hwait hq
  refine ⟨?byteFirst, ?timeoutFirst⟩
  case byteFirst =>
    refine (run_two_words s (hrxb b) htimeout (hninth b _ w hwait hq) (complete_port w _)).trans ?_
    rw [← complete_setPort]
    exact hignored _ (complete_frame w _).1
  case timeoutFirst =>
    have hroom : s.q.length < Config.rxqDepth := by
      have hlen := congrArg List.length hq
      rw [List.length_append, List.length_singleton, bytes_length] at hlen
      obtain ⟨hdepth, -⟩ := rxqDepth_bounds
      omega
    rw [List.append_cons s.events]
    exact (run_two_words s htimeout (hrxb b) (hended _ hwait) rfl).trans
      (hstored b (setPort [] (emit (.exchDone .timeout) (endExchange .timeout s))) hroom (.inl rfl))

/-! ### The outcome codes -/

/-- Settles O58: the code of each outcome by its row of R201. -/
theorem outcomeCodesAreNumbered : Obligations.OutcomeCodesAreNumbered :=
  ⟨rfl, rfl, rfl, rfl, rfl, rfl, rfl, rfl, rfl, rfl⟩

end Sys2Proof.Machine
end

section
/-! PROOFS. The family of 70_reset_and_hazards.md: the reset input. -/

namespace Sys2Proof.Machine

variable {s : State}

/-- R230: the reset input leaves the port and resets; it is no operation, so neither an event nor a settle phase
follows. -/
theorem step_resetInput {rest : List PortItem} (hport : s.port = .resetInput :: rest) :
    step s = .next (resetState (setPort rest s)) := by
  rw [step_cons s hport, fetchItem_resetInput, runFetched_resetInput]

/-- The reset keeps the history and the transfers placed at the port, and nothing else (R46, log 3). -/
theorem resetState_setPort (rest : List PortItem) (s : State) :
    resetState (setPort rest s) = { State.reset with events := s.events, port := rest } := rfl

/-- Settles O3: the step of the reset input, with the reset state written out. -/
theorem resetInputResetsSilently : Obligations.ResetInputResetsSilently := by
  intro s rest hport
  rw [step_resetInput hport, resetState_setPort]

end Sys2Proof.Machine
end

section
/-! PROOFS. The family of 95_test_vectors.md: the words and frames that the vectors write out. A word or a
frame that stands beside a row there is the encoding of that row, so that the row's round trip decodes it. -/

namespace Sys2Proof.Machine

/-- A row of 72 bits is read as its frame. -/
theorem decodeTableWord_toBits (f : Frame) : decodeTableWord 72 f.toBits.toNat = some (decodeTableFrame f) := by
  rw [decodeTableWord, if_neg (by decide), BitVec.ofNat_toNat, BitVec.setWidth_eq, ofBits_toBits]

/-- The 72 bits of a command's frame are read as the command where the mode request that its pair is taken with is
the command's own; of the twelve commands only SETUPMODE.MAN has another (R176, log 9). -/
theorem decodeTableWord_commandFrame {i : Instr} {a : StartArgs} (hi : i.isOperation = false)
    (ha : startArgsOf i = some a)
    (hm : (if isSetUploadModePair (commandFrame a).sync (commandFrame a).cmd then .auto else .none) = a.mreq) :
    decodeTableWord 72 (commandFrame a).toBits.toNat = some i := by
  rw [decodeTableWord_toBits, decodeTableFrame, hm, decodeCommand_commandFrame hi ha]

/-- The 72 bits of a sensor row's frame are read as that row. -/
theorem decodeSensor_toBits {i : Instr} {f : Frame} (hi : i.wellFormed = true) (hf : sensorFrameOf i = some f) :
    decodeSensor (Frame.ofBits f.toBits) = i := by
  rw [ofBits_toBits, decodeSensor_sensorFrame hi hf]

/-- Settles O6: the row beside a word or a frame encodes to it, and the row's round trip reads it back; POLL's word and
the two illegal ones are evaluated. -/
theorem sampleWordsDecode : Obligations.SampleWordsDecode := by
  refine ⟨decodeOp_rxbWord 0xFF#8, ?poll, ?start, ?startMan, ?startAuto, ?reservedMreq, ?reservedOp, ?setAddr,
    ?resetSoft, ?frameDist, ?respConfig⟩
  case poll => rfl
  case start => exact decodeOp_startWord ⟨.none, 0x62#8, 0x32#8, 0xFFFF#16, 0x12#8, 0x34#8, 0x00#8⟩
  case startMan => exact decodeOp_startWord (setUpModeManArgs 0xFFFF#16 0x00#8 0x00#8 0x00#8)
  case startAuto => exact decodeOp_startWord (setUpModeAutoArgs 0xFFFF#16 0x01#8 0x00#8 0x00#8)
  case reservedMreq => rfl
  case reservedOp => rfl
  case setAddr => exact decodeTableWord_commandFrame (a := setAddrArgs 0xFFFF#16 0x1234#16) rfl rfl rfl
  case resetSoft => exact decodeTableWord_commandFrame (a := resetSoftArgs .byte5 0xFFFF#16) rfl rfl rfl
  case frameDist =>
    exact decodeSensor_toBits (f := frameDistFrame 0x09#8 0xFFFF#16 0x01F4#16 0x00#8 0xAD#8) rfl rfl
  case respConfig =>
    exact decodeSensor_toBits (f := respConfigFrame 0x62#8 0x37#8 0x09#8 0xFFFF#16 0x0000#16 0x66#8 0x3A#8) rfl rfl

end Sys2Proof.Machine
end
